-- ==== Sys2Proof/Word.lean ====
section
/-! DEFINITION. The widths of the hardware's values (00_scope.md R5, R6): every value is an unsigned bit vector. -/

namespace Sys2Proof

/-- `DATA_W` = 8: what the data bus carries in one transfer (R5). -/
abbrev Byte := BitVec 8

/-- `WORD_W` = 16: one word of display RAM (R5). -/
abbrev Word := BitVec 16

/-- A request word `REQ` of the format `REQ32` (R41). -/
abbrev Request := BitVec 32

/-- A response word `RSP`, `STATUS` above `RDATA` (R44). -/
abbrev Response := BitVec 19

end Sys2Proof
end

