-- ==== Sys2Proof/Syntax.lean ====
section
/-! DEFINITION. The instructions: one constructor per row of spec/opcode_table.json. The first 21 are the operations a
host requests (format `REQ32`, 30_encoding.md R42), with the operands of R43; the last 11 are the command bytes the device
takes from the bus (format `CMD8`, R46), with their parameter bits. -/

namespace Sys2Proof

inductive Instr where
  /-- `SETDIR o` (R56). -/
  | setDir (output : Bool)
  /-- `WRB v` (R57). -/
  | wrb (value : Byte)
  /-- `RDB` (R58). -/
  | rdb
  /-- `SELCHIP a` (R59). -/
  | selChip (active : Bool)
  /-- `SELCMD k` (R60). -/
  | selCmd (isCommand : Bool)
  /-- `SETRST a` (R61). -/
  | setRst (active : Bool)
  /-- `SENDCMD b` (R62). -/
  | sendCmd (byte : Byte)
  /-- `WRWORD v` (R63). -/
  | wrWord (value : Word)
  /-- `RDWORD` (R64). -/
  | rdWord
  /-- `SETCOL c` (R73). -/
  | setCol (column : Byte)
  /-- `SETROW r` (R74). -/
  | setRow (row : Byte)
  /-- `DRAWPIXEL x, y, on` (R75). -/
  | drawPixel (x y : Byte) (on : Bool)
  /-- `FILLSCREEN on` (R76). -/
  | fillScreen (on : Bool)
  /-- `DRAWTRIPLET p1, p2, p3` (R77). -/
  | drawTriplet (p1 p2 p3 : Bool)
  /-- `SETVBIAS v` (R79). -/
  | setVbias (value : Byte)
  /-- `SETINV e` (R80). -/
  | setInv (enable : Bool)
  /-- `SETDISPEN s` (R81). -/
  | setDispEn (sleep : Bool)
  /-- `SETMAP mx, my` (R82). -/
  | setMap (mirrorX mirrorY : Bool)
  /-- `SETCOLORPAT` (R83). -/
  | setColorPat
  /-- `SETCOLORMODE` (R84). -/
  | setColorMode
  /-- `SYSRESET` (R85). -/
  | sysReset
  /-- `CMD_COL_LOW`: `0x00 | lsb4` (R46). -/
  | cmdColLow (lsb4 : BitVec 4)
  /-- `CMD_COL_HIGH`: `0x10 | msb3` (R46). -/
  | cmdColHigh (msb3 : BitVec 3)
  /-- `CMD_ROW_LOW`: `0x60 | lsb4` (R46). -/
  | cmdRowLow (lsb4 : BitVec 4)
  /-- `CMD_ROW_HIGH`: `0x70 | msb4` (R46). -/
  | cmdRowHigh (msb4 : BitVec 4)
  /-- `CMD_VBIAS`: `0x81`; the next command byte is its value (R51). -/
  | cmdVbias
  /-- `CMD_INVERSE`: `0xA6 | enable` (R46). -/
  | cmdInverse (enable : Bool)
  /-- `CMD_DISPEN`: `0xAC | sleep` (R46). -/
  | cmdDispen (sleep : Bool)
  /-- `CMD_MAPPING`: `0xC0 | 0b100*mirrorX | 0b10*mirrorY` (R46). -/
  | cmdMapping (mirrorX mirrorY : Bool)
  /-- `CMD_COLORPAT`: `0xD1` (R46). -/
  | cmdColorPat
  /-- `CMD_COLORMODE`: `0xD4` (R46). -/
  | cmdColorMode
  /-- `CMD_SYSRESET`: `0xE2` (R46). -/
  | cmdSysReset
  deriving DecidableEq, Repr

end Sys2Proof
end

