-- ==== Sys2Proof/WellFormed.lean ====
section
/-! DEFINITION. Well-formed encodings. The operands of `Instr` have exactly the widths of their fields (30_encoding.md R43,
R46), so every term of `Instr` is well formed; what can be ill formed is a word: a request word with an operation code
outside R42, a request word with a bit set that its operation does not use (the assembler writes those as 0, R53), a command
byte outside R46. -/

namespace Sys2Proof

/-- The 21 operation codes (R42). -/
def operationCodes : List Byte :=
  [0x01#8, 0x02#8, 0x03#8, 0x04#8, 0x05#8, 0x06#8, 0x10#8, 0x11#8, 0x12#8, 0x20#8, 0x21#8, 0x22#8, 0x23#8, 0x24#8,
   0x30#8, 0x31#8, 0x32#8, 0x33#8, 0x34#8, 0x35#8, 0x36#8]

/-- `OPC` = `REQ[31:24]` (R41). -/
def opcField (w : Request) : Byte := w.extractLsb' 24 8

/-- The bits of a request word that the operation with this code uses: `OPC` and its operands (R42, R43). -/
def usedBits (opc : Byte) : Request :=
  if opc ∈ [0x01#8, 0x04#8, 0x05#8, 0x06#8, 0x23#8, 0x31#8, 0x32#8] then 0xFF000001#32
  else if opc ∈ [0x02#8, 0x10#8, 0x20#8, 0x21#8, 0x30#8] then 0xFF0000FF#32
  else if opc = 0x11#8 then 0xFF00FFFF#32
  else if opc = 0x22#8 then 0xFFFFFF01#32
  else if opc = 0x24#8 then 0xFF000007#32
  else if opc = 0x33#8 then 0xFF000006#32
  else 0xFF000000#32

/-- A legal request word: its `OPC` is one of the 21 (R42, R50). -/
def WellFormed.legalRequest (w : Request) : Bool := operationCodes.contains (opcField w)

/-- A request word as the assembler writes it: legal, and every unused operand bit 0 (R53). -/
def WellFormed.canonicalRequest (w : Request) : Bool :=
  WellFormed.legalRequest w && (w &&& usedBits (opcField w) == w)

/-- The rows of R46: (`match`, `mask`). A byte `b` is the command when `b & mask = match`. -/
def commandRows : List (Byte × Byte) :=
  [(0x00#8, 0xF0#8), (0x10#8, 0xF8#8), (0x60#8, 0xF0#8), (0x70#8, 0xF0#8), (0x81#8, 0xFF#8), (0xA6#8, 0xFE#8),
   (0xAC#8, 0xFE#8), (0xC0#8, 0xF9#8), (0xD1#8, 0xFF#8), (0xD4#8, 0xFF#8), (0xE2#8, 0xFF#8)]

/-- A byte is the command of a row of R46. -/
def matchesRow (b : Byte) (row : Byte × Byte) : Bool := b &&& row.2 == row.1

/-- A command byte of the table: it matches a row of R46. -/
def WellFormed.listedCommand (b : Byte) : Bool := commandRows.any (matchesRow b)

end Sys2Proof
end

