-- ==== Sys2Proof/Decode.lean ====
section
/-! DEFINITION. The two decoders and their encoders. A request word is decoded by its operation code (30_encoding.md R42,
R43); a command byte by the rows of R46. Each refusal has a name. The encoders write the words the assembler writes (R53)
and the bytes the block emits (R46). -/

namespace Sys2Proof

/-- Why a word is no instruction. -/
inductive DecodeError where
  /-- `OPC` is not one of the 21 codes (R50). -/
  | illegalOpc (opc : Byte)
  /-- The command byte matches no row of R46 (R52: opaque to the block). -/
  | unlistedCommand (byte : Byte)
  /-- `decodeTableWord` was asked for a width no row has. -/
  | unknownWidth (nbits : Nat)
  deriving DecidableEq, Repr

/-- A command byte of R46 as the device reads it: the 11 rows, with their parameters. -/
inductive Command where
  | colLow (lsb4 : BitVec 4)
  | colHigh (msb3 : BitVec 3)
  | rowLow (lsb4 : BitVec 4)
  | rowHigh (msb4 : BitVec 4)
  | vbias
  | inverse (enable : Bool)
  | dispen (sleep : Bool)
  | mapping (mirrorX mirrorY : Bool)
  | colorPat
  | colorMode
  | sysReset
  deriving DecidableEq, Repr

/-- An instruction's encoding: a request word on the request port, or a command byte on the LCD bus. -/
inductive Encoded where
  | request (w : Request)
  | command (b : Byte)
  deriving DecidableEq, Repr

/-- `A` = `REQ[23:16]` (R41). -/
def aField (w : Request) : Byte := w.extractLsb' 16 8
/-- `B` = `REQ[15:8]` (R41). -/
def bField (w : Request) : Byte := w.extractLsb' 8 8
/-- `C` = `REQ[7:0]` (R41). -/
def cField (w : Request) : Byte := w.extractLsb' 0 8
/-- `B:C`, the operand of `WRWORD` (R43). -/
def bcField (w : Request) : Word := w.extractLsb' 0 16

/-- Decoding a request: by `OPC` only (R42), with the operands of R43; every other code is refused by name (R50). -/
def decodeRequest (w : Request) : Except DecodeError Instr :=
  let c := cField w
  match opcField w with
  | 0x01#8 => .ok (.setDir (c.getLsbD 0))
  | 0x02#8 => .ok (.wrb c)
  | 0x03#8 => .ok .rdb
  | 0x04#8 => .ok (.selChip (c.getLsbD 0))
  | 0x05#8 => .ok (.selCmd (c.getLsbD 0))
  | 0x06#8 => .ok (.setRst (c.getLsbD 0))
  | 0x10#8 => .ok (.sendCmd c)
  | 0x11#8 => .ok (.wrWord (bcField w))
  | 0x12#8 => .ok .rdWord
  | 0x20#8 => .ok (.setCol c)
  | 0x21#8 => .ok (.setRow c)
  | 0x22#8 => .ok (.drawPixel (aField w) (bField w) (c.getLsbD 0))
  | 0x23#8 => .ok (.fillScreen (c.getLsbD 0))
  | 0x24#8 => .ok (.drawTriplet (c.getLsbD 2) (c.getLsbD 1) (c.getLsbD 0))
  | 0x30#8 => .ok (.setVbias c)
  | 0x31#8 => .ok (.setInv (c.getLsbD 0))
  | 0x32#8 => .ok (.setDispEn (c.getLsbD 0))
  | 0x33#8 => .ok (.setMap (c.getLsbD 2) (c.getLsbD 1))
  | 0x34#8 => .ok .setColorPat
  | 0x35#8 => .ok .setColorMode
  | 0x36#8 => .ok .sysReset
  | opc => .error (.illegalOpc opc)

/-- Decoding a command byte by the rows of R46. The byte after `0x81` is exempt (R51): the device keeps that bit. -/
def decodeCommand (b : Byte) : Except DecodeError Command :=
  if b &&& 0xF0#8 = 0x00#8 then .ok (.colLow (b.extractLsb' 0 4))
  else if b &&& 0xF8#8 = 0x10#8 then .ok (.colHigh (b.extractLsb' 0 3))
  else if b &&& 0xF0#8 = 0x60#8 then .ok (.rowLow (b.extractLsb' 0 4))
  else if b &&& 0xF0#8 = 0x70#8 then .ok (.rowHigh (b.extractLsb' 0 4))
  else if b = 0x81#8 then .ok .vbias
  else if b &&& 0xFE#8 = 0xA6#8 then .ok (.inverse (b.getLsbD 0))
  else if b &&& 0xFE#8 = 0xAC#8 then .ok (.dispen (b.getLsbD 0))
  else if b &&& 0xF9#8 = 0xC0#8 then .ok (.mapping (b.getLsbD 2) (b.getLsbD 1))
  else if b = 0xD1#8 then .ok .colorPat
  else if b = 0xD4#8 then .ok .colorMode
  else if b = 0xE2#8 then .ok .sysReset
  else .error (.unlistedCommand b)

/-- The instruction a command byte is. -/
def Command.toInstr : Command → Instr
  | .colLow n => .cmdColLow n
  | .colHigh n => .cmdColHigh n
  | .rowLow n => .cmdRowLow n
  | .rowHigh n => .cmdRowHigh n
  | .vbias => .cmdVbias
  | .inverse e => .cmdInverse e
  | .dispen s => .cmdDispen s
  | .mapping mx my => .cmdMapping mx my
  | .colorPat => .cmdColorPat
  | .colorMode => .cmdColorMode
  | .sysReset => .cmdSysReset

/-- Decoding either encoding. -/
def decode : Encoded → Except DecodeError Instr
  | .request w => decodeRequest w
  | .command b => (decodeCommand b).map Command.toInstr

/-- A Boolean parameter as one bit at place `i` of a byte (R6: 1 is true). -/
def boolAt (i : Nat) (p : Bool) : Byte := (BitVec.ofBool p).setWidth 8 <<< i

/-- `0x..` in the document's table: "opcode base OR parameter bits" (R45, R46). -/
def encodeCommand : Command → Byte
  | .colLow n => 0x00#8 ||| n.setWidth 8
  | .colHigh n => 0x10#8 ||| n.setWidth 8
  | .rowLow n => 0x60#8 ||| n.setWidth 8
  | .rowHigh n => 0x70#8 ||| n.setWidth 8
  | .vbias => 0x81#8
  | .inverse e => 0xA6#8 ||| boolAt 0 e
  | .dispen s => 0xAC#8 ||| boolAt 0 s
  | .mapping mx my => 0xC0#8 ||| boolAt 2 mx ||| boolAt 1 my
  | .colorPat => 0xD1#8
  | .colorMode => 0xD4#8
  | .sysReset => 0xE2#8

/-- A request word from its four bytes (R41). -/
def requestWord (opc a b c : Byte) : Request := opc ++ a ++ b ++ c

/-- The word the assembler writes for an operation (R53), and the byte of a command (R46). -/
def encode : Instr → Encoded
  | .setDir o => .request (requestWord 0x01#8 0#8 0#8 (boolAt 0 o))
  | .wrb v => .request (requestWord 0x02#8 0#8 0#8 v)
  | .rdb => .request (requestWord 0x03#8 0#8 0#8 0#8)
  | .selChip a => .request (requestWord 0x04#8 0#8 0#8 (boolAt 0 a))
  | .selCmd k => .request (requestWord 0x05#8 0#8 0#8 (boolAt 0 k))
  | .setRst a => .request (requestWord 0x06#8 0#8 0#8 (boolAt 0 a))
  | .sendCmd b => .request (requestWord 0x10#8 0#8 0#8 b)
  | .wrWord v => .request (requestWord 0x11#8 0#8 (v.extractLsb' 8 8) (v.extractLsb' 0 8))
  | .rdWord => .request (requestWord 0x12#8 0#8 0#8 0#8)
  | .setCol c => .request (requestWord 0x20#8 0#8 0#8 c)
  | .setRow r => .request (requestWord 0x21#8 0#8 0#8 r)
  | .drawPixel x y on => .request (requestWord 0x22#8 x y (boolAt 0 on))
  | .fillScreen on => .request (requestWord 0x23#8 0#8 0#8 (boolAt 0 on))
  | .drawTriplet p1 p2 p3 => .request (requestWord 0x24#8 0#8 0#8 (boolAt 2 p1 ||| boolAt 1 p2 ||| boolAt 0 p3))
  | .setVbias v => .request (requestWord 0x30#8 0#8 0#8 v)
  | .setInv e => .request (requestWord 0x31#8 0#8 0#8 (boolAt 0 e))
  | .setDispEn s => .request (requestWord 0x32#8 0#8 0#8 (boolAt 0 s))
  | .setMap mx my => .request (requestWord 0x33#8 0#8 0#8 (boolAt 2 mx ||| boolAt 1 my))
  | .setColorPat => .request (requestWord 0x34#8 0#8 0#8 0#8)
  | .setColorMode => .request (requestWord 0x35#8 0#8 0#8 0#8)
  | .sysReset => .request (requestWord 0x36#8 0#8 0#8 0#8)
  | .cmdColLow n => .command (encodeCommand (.colLow n))
  | .cmdColHigh n => .command (encodeCommand (.colHigh n))
  | .cmdRowLow n => .command (encodeCommand (.rowLow n))
  | .cmdRowHigh n => .command (encodeCommand (.rowHigh n))
  | .cmdVbias => .command (encodeCommand .vbias)
  | .cmdInverse e => .command (encodeCommand (.inverse e))
  | .cmdDispen s => .command (encodeCommand (.dispen s))
  | .cmdMapping mx my => .command (encodeCommand (.mapping mx my))
  | .cmdColorPat => .command (encodeCommand .colorPat)
  | .cmdColorMode => .command (encodeCommand .colorMode)
  | .cmdSysReset => .command (encodeCommand .sysReset)

/-- An encoding is well formed: a canonical request word, or a listed command byte. -/
def Encoded.wellFormed : Encoded → Bool
  | .request w => WellFormed.canonicalRequest w
  | .command b => WellFormed.listedCommand b

/-- The encoding of a table row's bits: 32 bits are a request word, 8 bits a command byte. -/
def tableWord (nbits w : Nat) : Except DecodeError Encoded :=
  if nbits = 32 then .ok (.request (BitVec.ofNat 32 w))
  else if nbits = 8 then .ok (.command (BitVec.ofNat 8 w))
  else .error (.unknownWidth nbits)

/-- What the decoder reads from a row's bits as spec/opcode_table.json numbers them. -/
def decodeTableWord (nbits w : Nat) : Option Instr :=
  match tableWord nbits w with
  | .ok e =>
    match decode e with
    | .ok i => some i
    | .error _ => none
  | .error _ => none

end Sys2Proof
end

