-- ==== Sys2Proof/Machine/State.lean ====
section
/-! DEFINITION. The state, as plain data: the block (10_state.md R11 to R18), the device (20_memory.md R35), the host's moves
and the responses it has received (70_reset_and_hazards.md R115, R116), and the state right after reset (R20). -/

namespace Sys2Proof.Machine

/-- The five control lines (R9, R11). Their state is logical: true is asserted, the pin electrically low. -/
inductive Line where
  | cs
  | cd
  | rd
  | wr
  | rst
  deriving DecidableEq, Repr

/-- The direction of the data bus: `OUT` or `IN` (R13). -/
inductive Dir where
  | out
  | inp
  deriving DecidableEq, Repr

/-- One event of `TRACE`, appended by one action (00_scope.md R8). -/
inductive Event where
  /-- `Line(L, a)`. -/
  | line (l : Line) (asserted : Bool)
  /-- `Dir(d)`. -/
  | dir (d : Dir)
  /-- `Drive(v)`. -/
  | drive (v : Byte)
  /-- `Hold(n)`: at least `n` cycles pass. -/
  | hold (n : Nat)
  /-- `Sample(v)`. -/
  | sample (v : Byte)
  deriving DecidableEq, Repr

/-- One transfer between block and device (R33): `XW(c, b)` or `XR(c, v)`, `c` true for a command. -/
inductive Transfer where
  | write (c : Bool) (b : Byte)
  | read (c : Bool) (v : Byte)
  deriving DecidableEq, Repr

/-- The 13 pins as the block drives them (R11, R13). -/
structure Bus where
  cs : Bool
  cd : Bool
  rd : Bool
  wr : Bool
  rst : Bool
  dir : Dir
  dout : Byte
  /-- The model's own bit (notes 17): a write pulse is in progress, and `CS = 1` and `RST = 0` have held since its start
  ("during the whole pulse", R33). -/
  pulse : Bool
  deriving DecidableEq, Repr

/-- `MIRROR` (R14). -/
structure Mirror where
  mx : Bool
  my : Bool
  deriving DecidableEq, Repr

/-- The device's phase `ph` (R35). -/
inductive Phase where
  | a0
  | a1
  | a2
  | a3
  | a4
  | r1
  | r2
  | w1 (high : Byte)
  | n
  | u
  deriving DecidableEq, Repr

/-- The device's settings as last commanded; `none` is unknown (R99, R107, R96, R79 to R84; notes 16). DEDUCED. -/
structure Settings where
  mapping : Option Mirror
  vbias : Option Byte
  inverse : Option Bool
  sleep : Option Bool
  colorPattern : Bool
  colorMode : Bool
  deriving DecidableEq, Repr

/-- Nothing is known of the device's settings. -/
def Settings.unknown : Settings :=
  { mapping := none, vbias := none, inverse := none, sleep := none, colorPattern := false, colorMode := false }

/-- The bytes of display RAM that are known, by address. Canonical form: addresses strictly rising. An unlisted byte is
unknown; `Device.byteAt` says what it reads as (notes 5). -/
abbrev Memory := List Host.Cell

/-- How a data access reached the word at the cursor (R40; notes 27). -/
inductive WordAccess where
  /-- By an address sequence just before it (R40a). -/
  | addressed
  /-- By word writes that go on from an addressed write (R40d). -/
  | continued
  /-- By any other pattern (R40e). -/
  | unaddressed
  deriving DecidableEq, Repr

/-- The reference device model's state (R35). The cursor's halves are kept apart, as the four address commands write them
(R24); `Device.crow` and `Device.ccol` are the cursor. -/
structure Device where
  mem : Memory
  /-- The model's own (notes 5): the RAM epoch under which unlisted bytes are free. -/
  epoch : Nat
  rowHi : BitVec 4
  rowLo : BitVec 4
  colHi : BitVec 3
  colLo : BitVec 4
  vb : Bool
  ph : Phase
  settings : Settings
  /-- The model's own (notes 7): the number of the next free value. -/
  draws : Nat
  /-- The model's own record (notes 27): the words, by the address of their high byte, that an addressed write has stored since
  RAM was last forgotten, and that nothing has made arbitrary after it (R116 `ram_known`). -/
  written : List Nat
  /-- The model's own record (notes 27): how the last word write or word read reached its word. -/
  access : WordAccess
  deriving DecidableEq, Repr

/-- What answers `sample()` (R34): the reference device model, or an unconstrained environment that gives these bytes and
then any byte. -/
inductive Oracle where
  | device
  | script (bytes : List Byte)
  deriving DecidableEq, Repr

/-- The host's moves (R115). -/
inductive HostMove where
  /-- (1) Present a request word and receive its response. -/
  | request (req : Request)
  /-- (2) Let time pass between two requests. -/
  | pause
  /-- (3) Assert the block reset while `BUSY = 0` (R97). -/
  | blockReset
  /-- (3) Present a request and assert the block reset before its response (R98). -/
  | requestThenReset (req : Request)
  deriving DecidableEq, Repr

/-- Reasons to stop. There is none: every operation ends with a response (R114) and a bad read gives garbage (R87), so no
definition raises a fault; safe. -/
inductive Fault where
  deriving DecidableEq, Repr

/-- Reasons for giving no meaning. -/
inductive Refusal where
  /-- Raised by an arm of `exec` alone, for an instruction without a meaning; none is left; safe. -/
  | notModelled (mnemonic : String)
  deriving DecidableEq, Repr

/-- The machine: block, interface, oracle and device. -/
structure State where
  /-- Control lines and data bus (R11, R13). -/
  bus : Bus
  /-- `MIRROR` (R14). -/
  mirror : Mirror
  /-- `ROW` (R15). -/
  row : BitVec 8
  /-- `COL` (R15). -/
  col : BitVec 7
  /-- `POS` (R15). -/
  pos : BitVec 2
  /-- `W` (R15). -/
  w : Word
  /-- `DIN` (R15). -/
  din : Byte
  /-- `BUSY` (R16). -/
  busy : Bool
  /-- `OP`, the request word being executed (R16). -/
  op : Request
  /-- `SEQ`, the index of the next action (R16). -/
  seq : Nat
  /-- `FC`, the column counter of `FILLSCREEN` (R16). -/
  fc : BitVec 7
  /-- `FR`, the row counter of `FILLSCREEN` (R16). -/
  fr : BitVec 8
  /-- `STATUS` (R17). -/
  status : BitVec 3
  /-- `RDATA` (R17). -/
  rdata : Word
  /-- The down-counter of `hold` (R93). -/
  timer : Nat
  /-- `TRACE` (R18), newest event first (notes 1); `State.trace` gives it in order. -/
  log : List Event
  /-- The requests accepted since the block's reset, oldest first: the run of R116, kept as a record beside `TRACE` (notes 14). -/
  accepted : List Request
  /-- The responses given so far, oldest first (R44, R116). -/
  responses : List Response
  /-- The host's moves still to come (R115). -/
  host : List HostMove
  /-- What answers `sample()` (R34). -/
  oracle : Oracle
  /-- The device (R35). -/
  dev : Device
  deriving DecidableEq, Repr

/-- The lines and the bus after the block's reset (R20). `DOUT` is unspecified there: DESIGN CHOICE 0 (notes 4), unsafe. -/
def Bus.reset : Bus :=
  { cs := false, cd := false, rd := false, wr := false, rst := false, dir := .out, dout := 0, pulse := false }

/-- The device at the start: RAM unknown, `ph = U`, `vb = 0` (R35). The cursor is arbitrary there: DESIGN CHOICE 0 (notes 4),
unsafe. -/
def Device.initial : Device :=
  { mem := [], epoch := 0, rowHi := 0, rowLo := 0, colHi := 0, colLo := 0, vb := false, ph := .u,
    settings := Settings.unknown, draws := 1, written := [], access := .unaddressed }

/-- The machine right after reset (R20, R97). Where R20 says "unspecified" the value is 0: DESIGN CHOICE (notes 4), unsafe.
The reference device model answers reads: DESIGN CHOICE (notes 6). The host has not moved yet (notes 3). -/
def State.reset : State :=
  { bus := Bus.reset, mirror := { mx := false, my := false }, row := 0, col := 0, pos := 0, w := 0, din := 0,
    busy := false, op := 0, seq := 0, fc := 0, fr := 0, status := 0, rdata := 0, timer := 0, log := [],
    accepted := [], responses := [], host := [], oracle := .device, dev := Device.initial }

end Sys2Proof.Machine
end

