-- ==== Sys2Proof/Machine/Bus.lean ====
section
/-! DEFINITION. What an event does to the pins (00_scope.md R8), which transfer it completes (20_memory.md R33), and the two
functions of a trace: the transfer-level trace (R33) and the pin waveform (R8). -/

namespace Sys2Proof.Machine

/-- The level of one control line (R11). -/
def Bus.level (b : Bus) (l : Line) : Bool :=
  match l with
  | .cs => b.cs
  | .cd => b.cd
  | .rd => b.rd
  | .wr => b.wr
  | .rst => b.rst

/-- The pins after an event (R8). The pulse bit is set when the write strobe rises under chip-select out of reset, and
cleared when the strobe ends, chip-select is released or reset is asserted (R33a). -/
def Bus.after (b : Bus) (e : Event) : Bus :=
  match e with
  | .line .cs a => { b with cs := a, pulse := b.pulse && a }
  | .line .cd a => { b with cd := a }
  | .line .rd a => { b with rd := a }
  | .line .wr a => { b with wr := a, pulse := a && b.cs && !b.rst }
  | .line .rst a => { b with rst := a, pulse := b.pulse && !a }
  | .dir d => { b with dir := d }
  | .drive v => { b with dout := v }
  | .hold _ => b
  | .sample _ => b

/-- The transfer an event completes, given the pins before it (R33): (a) the end of a write pulse; (b) a sample while
`CS = 1`, `RD = 1` and `RST = 0`. -/
def Bus.transfer (b : Bus) (e : Event) : Option Transfer :=
  match e with
  | .line .wr false => if b.wr && b.pulse then some (.write b.cd b.dout) else none
  | .sample v => if b.cs && b.rd && !b.rst then some (.read b.cd v) else none
  | _ => none

/-- The pins after a list of events, oldest first. -/
def Bus.run (b : Bus) (es : List Event) : Bus := es.foldl Bus.after b

/-- The transfers a list of events completes, from the given pins (R33). -/
def Bus.transfers : Bus → List Event → List Transfer
  | _, [] => []
  | b, e :: es => (b.transfer e).toList ++ Bus.transfers (b.after e) es

/-- `xfers(TRACE)` (R33): the trace starts at reset. -/
def xfers (trace : List Event) : List Transfer := Bus.reset.transfers trace

/-- An event changes the pins, or samples them (R8). -/
def Bus.changes (b : Bus) (e : Event) : Bool :=
  match e with
  | .line l a => b.level l != a
  | .dir d => b.dir != d
  | .drive v => b.dout != v
  | .hold _ => false
  | .sample _ => true

/-- The pin waveform of a list of events: those that changed nothing are left out (R8). -/
def Bus.waveform : Bus → List Event → List Event
  | _, [] => []
  | b, e :: es => if b.changes e then e :: Bus.waveform (b.after e) es else Bus.waveform (b.after e) es

/-- The least number of cycles with a strobe asserted during a list of events: its holds under an asserted strobe (R113). -/
def Bus.strobeCycles : Bus → List Event → Nat
  | _, [] => 0
  | b, .hold n :: es => (if b.rd || b.wr then n else 0) + Bus.strobeCycles b es
  | b, e :: es => Bus.strobeCycles (b.after e) es

end Sys2Proof.Machine
end

