-- ==== Sys2Proof/Config.lean ====
section
/-! DEFINITION. What one instance of the hardware fixes: the parameters of 00_scope.md R5, and the free values the spec
leaves open. An `opaque` constant has no body: no proof can see its value, so a theorem holds for every value of it. -/

namespace Sys2Proof

/-- `ROW_MAX` = 159 (R5). -/
def Config.rowMax : Nat := 159
/-- `COL_BASE` = 37 (R5). -/
def Config.colBase : Nat := 37
/-- `COL_MAX` = 90 (R5). -/
def Config.colMax : Nat := 90
/-- `N_WORDCOLS` = 54 (R5). -/
def Config.nWordCols : Nat := 54
/-- The number of rows: `ROW_MIN`, `ROW_MAX` = 0, 159 (R5). -/
def Config.nRows : Nat := 160

/-- DESIGN CHOICE (notes 8), safe: the configured `WR_PULSE_MIN`, where the instance configures one (R5, D5). -/
opaque Config.wrPulseSetting : Option Nat

/-- `WR_PULSE_MIN`: "default 5, configurable" (R5). -/
def Config.wrPulseMin : Nat := Config.wrPulseSetting.getD 5

/-- DESIGN CHOICE (notes 8), safe: how far `RD_PULSE_MIN` exceeds 1; OPEN in the spec (R5, D5). -/
opaque Config.rdPulseExtra : Nat

/-- `RD_PULSE_MIN`: "a natural number, at least 1" (R5). -/
def Config.rdPulseMin : Nat := Config.rdPulseExtra + 1

/-- DESIGN CHOICE (notes 8), safe: `F_CLK` in hertz, a whole number; OPEN in the spec (R5, D4). -/
opaque Config.clockHz : Nat

/-- `SYSRESET_SETTLE_MIN`: "the least number of `clk` cycles lasting at least 1 ms" (R5, D17). -/
def Config.sysresetSettleMin : Nat := (Config.clockHz + 999) / 1000

/-- Free value (notes 7): the byte draw number `n` gives to a sample the environment leaves open (R34, R38). -/
opaque Config.freeByte : Nat → Byte

/-- Free value (notes 7): the byte draw number `n` gives to a half of a word of display RAM that takes an arbitrary value (R36,
R38). It is another constant than `Config.freeByte`: the byte sampled and the word lost at one read are free apart from each
other. -/
opaque Config.lostByte : Nat → Byte

/-- Free value (notes 7): the row address draw number `n` gives to the device's cursor (R36, R39). -/
opaque Config.freeRow : Nat → BitVec 8

/-- Free value (notes 7): the column address draw number `n` gives to the device's cursor (R36, R39). -/
opaque Config.freeColumn : Nat → BitVec 7

/-- Free value (notes 7): the bit draw number `n` gives (R98: the device state is then unknown). -/
opaque Config.freeBit : Nat → Bool

/-- Free value (notes 5): what a byte of display RAM nothing has written holds, for each RAM epoch (one epoch runs from one
havoc of the whole RAM to the next) and each address (R35 "all arbitrary", R36, R39). -/
opaque Config.ramByte : Nat → Nat → Byte

end Sys2Proof
end

