-- ==== Sys2Proof/Machine/Memory.lean ====
section
/-! DEFINITION. The display RAM's known bytes, a list of cells with strictly rising addresses. The device addresses words by
(row, column) (20_memory.md R23); a word's high byte stands at an even address, its low byte after it: the byte address is the
model's own (notes 5). -/

namespace Sys2Proof.Machine

/-- The address of the high byte of the word at (row, column); the low byte's is one more (notes 5). -/
def Memory.wordAddr (r c : Nat) : Nat := 2 * (128 * r + c)

/-- The word at (row, column) exists: it is in the window (R23, R35). -/
def Memory.inWindow (r c : Nat) : Bool :=
  decide (r ≤ Config.rowMax ∧ Config.colBase ≤ c ∧ c ≤ Config.colMax)

/-- The known byte at an address, or none: nothing has written it. -/
def Memory.read : Memory → Nat → Option Byte
  | [], _ => none
  | (k, b) :: m, a => if k = a then some b else Memory.read m a

/-- Writing one byte keeps the addresses rising and lists each once. -/
def Memory.write : Memory → Nat → Byte → Memory
  | [], a, b => [(a, b)]
  | (k, v) :: m, a, b =>
    if a < k then (a, b) :: (k, v) :: m
    else if a = k then (a, b) :: m
    else (k, v) :: Memory.write m a b

/-- `MemWrite((r, c), 2, v)` (R7, R35): both bytes of the word. -/
def Memory.writeWord (m : Memory) (r c : Nat) (hi lo : Byte) : Memory :=
  (m.write (Memory.wordAddr r c) hi).write (Memory.wordAddr r c + 1) lo

/-- An address is that of a byte of the window. -/
def Memory.addrExists (a : Nat) : Bool := Memory.inWindow (a / 2 / 128) (a / 2 % 128)

/-- The canonical form: addresses strictly rising, and all of them in the window. -/
abbrev Memory.wf (m : Memory) : Prop :=
  m.Pairwise (fun x y => x.1 < y.1) ∧ ∀ x ∈ m, Memory.addrExists x.1 = true

end Sys2Proof.Machine
end

