-- ==== Sys2Proof/Machine/Operands.lean ====
section
/-! DEFINITION. Operand forms and pure functions: word serialisation (20_memory.md R25, 30_encoding.md R48), the PixelWord and
its masks (R49, R68), the translation of a coordinate (42_pixel_addressing.md R65 to R67), update and pack (R70, R71), the
range check (R72) and the address split (R47). -/

namespace Sys2Proof.Machine

/-- `v[15:8]`, the byte that moves first (R25, R48). -/
def highByte (v : Word) : Byte := v.extractLsb' 8 8

/-- `v[7:0]`, the byte that moves last (R25, R48). -/
def lowByte (v : Word) : Byte := v.extractLsb' 0 8

/-- `hi:lo` (R48). -/
def joinWord (hi lo : Byte) : Word := hi ++ lo

/-- `row(y) = y` (R65). -/
def pixelRow (y : Byte) : Nat := y.toNat

/-- `column(x, MY)`, on natural numbers without wrap-around (R66). -/
def pixelColumn (x : Byte) (my : Bool) : Nat :=
  if my then Config.colBase + (x.toNat + 2) / 3 else Config.colBase + x.toNat / 3

/-- `perm`: 0 to 0, 1 to 2, 2 to 1; there is no fourth case (R67, U10). -/
def subPositionPerm (p : Fin 3) : Fin 3 :=
  match p with
  | 0 => 0
  | 1 => 2
  | 2 => 1

/-- `x mod 3` (R69). -/
def mod3 (x : Byte) : Fin 3 := ⟨x.toNat % 3, Nat.mod_lt _ (by decide)⟩

/-- `subPosition(x, MY)` (R67). -/
def subPosition (x : Byte) (my : Bool) : Fin 3 := if my then subPositionPerm (mod3 x) else mod3 x

/-- `mask(pos)`, defined on {0, 1, 2} only (R68). -/
def fieldMask (pos : Fin 3) : Word :=
  match pos with
  | 0 => 0xF800#16
  | 1 => 0x07E0#16
  | 2 => 0x001F#16

/-- `update(w, pos, on)` (R70). -/
def updateWord (w : Word) (pos : Fin 3) (on : Bool) : Word :=
  if on then w ||| fieldMask pos else w &&& ~~~fieldMask pos

/-- `pack(p1, p2, p3)` (R71). -/
def packWord (p1 p2 p3 : Bool) : Word :=
  (if p1 then 0xF800#16 else 0#16) ||| (if p2 then 0x07E0#16 else 0#16) ||| (if p3 then 0x001F#16 else 0#16)

/-- `inrange_row(r)` (R72). -/
def inRangeRow (r : Nat) : Bool := decide (r ≤ Config.rowMax)

/-- `inrange_col(c)` (R72). -/
def inRangeColumn (c : Nat) : Bool := decide (Config.colBase ≤ c ∧ c ≤ Config.colMax)

/-- `c[3:0]`, the parameter of the first column byte (R47). -/
def columnLow (c : BitVec 7) : BitVec 4 := c.extractLsb' 0 4

/-- `c[6:4]`, the parameter of the second column byte (R47). -/
def columnHigh (c : BitVec 7) : BitVec 3 := c.extractLsb' 4 3

/-- `r[3:0]`, the parameter of the first row byte (R47). -/
def rowLow (r : BitVec 8) : BitVec 4 := r.extractLsb' 0 4

/-- `r[7:4]`, the parameter of the second row byte (R47). -/
def rowHigh (r : BitVec 8) : BitVec 4 := r.extractLsb' 4 4

/-- The two bits of `POS` for a sub-position (R15). -/
def positionBits (p : Fin 3) : BitVec 2 := BitVec.ofNat 2 p.val

end Sys2Proof.Machine
end

