-- ==== Sys2Proof/Machine/Device.lean ====
section
/-! DEFINITION. The reference device model RDM (20_memory.md R35 to R39): how the device takes each transfer and the reset
line, what it answers to a read, and what it forgets. Arbitrary values are free values, drawn by number (notes 7). -/

namespace Sys2Proof.Machine

/-- `crow` (R35). -/
def Device.crow (d : Device) : BitVec 8 := d.rowHi ++ d.rowLo

/-- `ccol` (R35). -/
def Device.ccol (d : Device) : BitVec 7 := d.colHi ++ d.colLo

/-- `crow <- r`. -/
def Device.setRow (d : Device) (r : BitVec 8) : Device := { d with rowHi := rowHigh r, rowLo := rowLow r }

/-- `ccol <- c`. -/
def Device.setCol (d : Device) (c : BitVec 7) : Device := { d with colHi := columnHigh c, colLo := columnLow c }

/-- "In window" (R35). -/
def Device.inWindow (d : Device) : Bool := Memory.inWindow d.crow.toNat d.ccol.toNat

/-- What a byte of display RAM holds: the known byte, or the free value of its epoch and address (notes 5). -/
def Device.byteAt (d : Device) (a : Nat) : Byte := (d.mem.read a).getD (Config.ramByte d.epoch a)

/-- `MemRead((r, c), 2)[15:8]` (R35). -/
def Device.highAt (d : Device) (r c : Nat) : Byte := d.byteAt (Memory.wordAddr r c)

/-- `MemRead((r, c), 2)[7:0]` (R35). -/
def Device.lowAt (d : Device) (r c : Nat) : Byte := d.byteAt (Memory.wordAddr r c + 1)

/-- `ram[r][c]`, `MemRead((r, c), 2)` (R35). -/
def Device.word (d : Device) (r c : Nat) : Word := joinWord (d.highAt r c) (d.lowAt r c)

/-- `ram[crow][ccol] <- hi:lo`. -/
def Device.store (d : Device) (hi lo : Byte) : Device :=
  { d with mem := d.mem.writeWord d.crow.toNat d.ccol.toNat hi lo }

/-- The address of the word at the cursor. -/
def Device.cursorAddr (d : Device) : Nat := Memory.wordAddr d.crow.toNat d.ccol.toNat

/-- The record says that the word at the cursor is not known (notes 27). -/
def Device.dropWord (d : Device) : Device := { d with written := d.written.filter (· != d.cursorAddr) }

/-- The record says that the word at the cursor is known (notes 27). -/
def Device.keepWord (d : Device) : Device := { d with written := d.cursorAddr :: d.dropWord.written }

/-- What a completed word write does to the record: an addressed one makes its word known (R40a, R116), one that goes on from it
leaves the record (R40d), any other makes its word not known (R40e; notes 27). -/
def Device.recordWord (d : Device) : Device :=
  match d.access with
  | .addressed => d.keepWord
  | .continued => d
  | .unaddressed => d.dropWord

/-- How a word write that follows this access at once reaches its word (R40d, e). -/
def WordAccess.next (a : WordAccess) : WordAccess :=
  match a with
  | .addressed | .continued => .continued
  | .unaddressed => .unaddressed

/-- `MemWrite((crow, ccol), 2, hi:lo)` by a completed word write (R37b). -/
def Device.writeWord (d : Device) (hi lo : Byte) : Device := (d.store hi lo).recordWord

/-- Havoc of `ram`: every word takes an arbitrary value (R35). A new epoch begins. -/
def Device.havocRam (d : Device) : Device := { d with mem := [], epoch := d.draws, draws := d.draws + 1, written := [] }

/-- Havoc of `crow` and `ccol` (R35). -/
def Device.havocCursor (d : Device) : Device :=
  { (d.setRow (Config.freeRow d.draws)).setCol (Config.freeColumn d.draws) with draws := d.draws + 1 }

/-- `ram[crow][ccol]` takes an arbitrary value (R36, R38). -/
def Device.scrambleWord (d : Device) : Device :=
  { (d.store (Config.lostByte d.draws) (Config.lostByte (d.draws + 1))).dropWord with draws := d.draws + 2 }

/-- The cursor moves on: `ccol <- (ccol + 1) mod 128` (R37, R38). -/
def Device.advance (d : Device) : Device := d.setCol (d.ccol + 1)

/-- A half-written word is lost: if `ph = W1(h)` and in window, `ram[crow][ccol]` takes an arbitrary value (R36, R38c). -/
def Device.loseHalfWord (d : Device) : Device :=
  match d.ph with
  | .w1 _ => if d.inWindow then d.scrambleWord else d
  | .a0 | .a1 | .a2 | .a3 | .a4 | .r1 | .r2 | .n | .u => d

/-- The classes of a command byte (R36). -/
inductive CommandClass where
  | cl
  | ch
  | rl
  | rh
  | other
  deriving DecidableEq, Repr

/-- The phase after a command of a class (R36, "Finally the phase"). -/
def phaseAfter (k : CommandClass) (ph : Phase) : Phase :=
  match k with
  | .cl => .a1
  | .ch => if ph = .a1 then .a2 else .a0
  | .rl => if ph = .a2 then .a3 else .a0
  | .rh => if ph = .a3 then .a4 else .a0
  | .other => .a0

/-- A command of a class has been taken. -/
def Device.endCommand (d : Device) (k : CommandClass) : Device := { d with ph := phaseAfter k d.ph }

/-- `ccol[3:0] <- lsb4` (R36). -/
def Device.commandColLow (lsb4 : BitVec 4) (d : Device) : Device := { d with colLo := lsb4 }.endCommand .cl

/-- `ccol[6:4] <- msb3` (R36). -/
def Device.commandColHigh (msb3 : BitVec 3) (d : Device) : Device := { d with colHi := msb3 }.endCommand .ch

/-- `crow[3:0] <- lsb4` (R36). -/
def Device.commandRowLow (lsb4 : BitVec 4) (d : Device) : Device := { d with rowLo := lsb4 }.endCommand .rl

/-- `crow[7:4] <- msb4` (R36). -/
def Device.commandRowHigh (msb4 : BitVec 4) (d : Device) : Device := { d with rowHi := msb4 }.endCommand .rh

/-- `vb <- 1`: the next command byte is the VBias value (R36, R51). -/
def Device.commandVbias (d : Device) : Device := { d with vb := true }.endCommand .other

/-- No change to `ram` or cursor (R36); the inverse setting is commanded (R80). -/
def Device.commandInverse (enable : Bool) (d : Device) : Device :=
  { d with settings := { d.settings with inverse := some enable } }.endCommand .other

/-- No change to `ram` or cursor (R36); the sleep bit is commanded (R81). What survives sleep is not in the source
(R96): the model keeps every other setting as last commanded, at both values of the bit. DESIGN CHOICE (notes 16), unsafe. -/
def Device.commandDispen (sleep : Bool) (d : Device) : Device :=
  { d with settings := { d.settings with sleep := some sleep } }.endCommand .other

/-- No change to `ram` or cursor (R36); the mapping setting is commanded (R82, R107). -/
def Device.commandMapping (mx my : Bool) (d : Device) : Device :=
  { d with settings := { d.settings with mapping := some { mx := mx, my := my } } }.endCommand .other

/-- No change to `ram` or cursor (R36); the colour pattern is commanded (R83). -/
def Device.commandColorPat (d : Device) : Device :=
  { d with settings := { d.settings with colorPattern := true } }.endCommand .other

/-- No change to `ram` or cursor (R36); the colour mode is commanded (R84). -/
def Device.commandColorMode (d : Device) : Device :=
  { d with settings := { d.settings with colorMode := true } }.endCommand .other

/-- A reset of the device: `ram`, `crow`, `ccol` are forgotten (R36, R39), and the settings (R99, R107; notes 16). -/
def Device.forget (d : Device) : Device := { d.havocRam.havocCursor with settings := Settings.unknown }

/-- `0xE2`: havoc `ram`, `crow`, `ccol` (R36). -/
def Device.commandSysReset (d : Device) : Device := d.forget.endCommand .other

/-- A byte outside the table: havoc `ram`, `crow`, `ccol` (R36, U16). The settings stay as last commanded: R107 names what
changes them, and such a byte is not there. DEDUCED (notes 16), unsafe. -/
def Device.commandUnlisted (d : Device) : Device := d.havocRam.havocCursor.endCommand .other

/-- The byte after `0x81` is the VBias value and no command (R36, R51). -/
def Device.takeVbias (value : Byte) (d : Device) : Device :=
  { d with vb := false, settings := { d.settings with vbias := some value } }.endCommand .other

/-- One command of the table (R36). -/
def Device.command (c : Command) (d : Device) : Device :=
  match c with
  | .colLow n => d.commandColLow n
  | .colHigh n => d.commandColHigh n
  | .rowLow n => d.commandRowLow n
  | .rowHigh n => d.commandRowHigh n
  | .vbias => d.commandVbias
  | .inverse e => d.commandInverse e
  | .dispen s => d.commandDispen s
  | .mapping mx my => d.commandMapping mx my
  | .colorPat => d.commandColorPat
  | .colorMode => d.commandColorMode
  | .sysReset => d.commandSysReset

/-- A command write `XW(1, b)` (R36): first a half-written word is lost, then the byte is a value or a command. -/
def Device.commandWrite (b : Byte) (d : Device) : Device :=
  if d.loseHalfWord.vb then d.loseHalfWord.takeVbias b
  else
    match decodeCommand b with
    | .ok c => d.loseHalfWord.command c
    | .error _ => d.loseHalfWord.commandUnlisted

/-- A data write `XW(0, b)` (R37). -/
def Device.dataWrite (b : Byte) (d : Device) : Device :=
  match d.ph with
  | .a4 => { d with ph := .w1 b, access := .addressed }
  | .n => { d with ph := .w1 b }
  | .w1 h => { (if d.inWindow then d.writeWord h b else d.havocRam).advance with ph := .n, access := d.access.next }
  | .a0 | .a1 | .a2 | .a3 | .r1 | .r2 | .u => { d.havocRam with ph := .u }

/-- What the RDM fixes of the byte a read returns; none is an arbitrary byte (R38). -/
def Device.readValue (c : Bool) (d : Device) : Option Byte :=
  if c || !d.inWindow then none
  else
    match d.ph with
    | .r1 => some (d.highAt d.crow.toNat d.ccol.toNat)
    | .r2 => some (d.lowAt d.crow.toNat d.ccol.toNat)
    | .a0 | .a1 | .a2 | .a3 | .a4 | .w1 _ | .n | .u => none

/-- A data read `XR(0, v)` (R38a to c). -/
def Device.dataRead (d : Device) : Device :=
  match d.ph with
  | .a4 => { d with ph := .r1 }
  | .r1 => { d with ph := .r2 }
  | .r2 => { d.advance with ph := .n, access := .unaddressed }
  | .a0 | .a1 | .a2 | .a3 | .n | .u | .w1 _ => { d.loseHalfWord with ph := .u }

/-- A command-mode read `XR(1, v)`: the phase is out of discipline (R38, U18). -/
def Device.commandRead (d : Device) : Device := { d with ph := .u }

/-- The device takes one transfer (R36 to R38). -/
def Device.receive (t : Transfer) (d : Device) : Device :=
  match t with
  | .write true b => d.commandWrite b
  | .write false b => d.dataWrite b
  | .read true _ => d.commandRead
  | .read false _ => d.dataRead

/-- The reset line is asserted: nothing survives (R39). -/
def Device.resetLine (d : Device) : Device := { d.forget with vb := false, ph := .u }

/-- The device state is unknown: the block was reset during an operation (R98). -/
def Device.lost (d : Device) : Device :=
  { d.forget with vb := Config.freeBit d.draws, ph := .u }

/-- The device meets one event of the block, given the pins before it: a transfer it completes (R33), or the reset line
rising (R39). -/
def Device.observe (b : Bus) (e : Event) (d : Device) : Device :=
  match e with
  | .line .rst true => if b.rst then d else d.resetLine
  | .line .rst false | .line .cs _ | .line .cd _ | .line .rd _ | .line .wr _ | .dir _ | .drive _ | .hold _ | .sample _ =>
    match b.transfer e with
    | some t => d.receive t
    | none => d

/-- One free byte has been drawn. -/
def Device.drawn (d : Device) : Device := { d with draws := d.draws + 1 }

/-- The device takes a list of transfers, oldest first. -/
def Device.run (d : Device) (ts : List Transfer) : Device := ts.foldl (fun d t => d.receive t) d

end Sys2Proof.Machine
end

