-- ==== Sys2Proof/Machine/Flags.lean ====
section
/-! DEFINITION. The status codes and the response word (10_state.md R17, 30_encoding.md R44, 60_exceptions.md R86). The
hardware has no condition codes (R17, R69). -/

namespace Sys2Proof.Machine

/-- `OK` (R17). -/
def statusOk : BitVec 3 := 0#3

/-- The causes of a reject (R86). -/
inductive RejectCause where
  /-- `REJECT_RANGE`: an address or a coordinate out of range. -/
  | rejectRange
  /-- `ILLEGAL_OP`: `OPC` is not one of the 21. -/
  | illegalOp
  /-- `REFUSED_DIR`: a change of direction under chip-select. -/
  | refusedDir
  deriving DecidableEq, Repr

/-- The code a reject writes to `STATUS` (R86). -/
def rejectCode (c : RejectCause) : BitVec 3 :=
  match c with
  | .rejectRange => 1#3
  | .illegalOp => 2#3
  | .refusedDir => 3#3

/-- `RSP`: `RSP[18:16]` = `STATUS`, `RSP[15:0]` = `RDATA` (R44). -/
def responseWord (status : BitVec 3) (rdata : Word) : Response := status ++ rdata

/-- The `STATUS` field of a response (R44). -/
def responseStatus (r : Response) : BitVec 3 := r.extractLsb' 16 3

/-- The `RDATA` field of a response (R44). -/
def responseData (r : Response) : Word := r.extractLsb' 0 16

end Sys2Proof.Machine
end

