-- ==== Sys2Proof/Machine/Ops.lean ====
section
/-! DEFINITION. The named operations of the block: the five actions (00_scope.md R8), accepting a request and ending an
operation (10_state.md R16, R17), the reject, which is the hardware's one exception (60_exceptions.md R90), and the block
reset (70_reset_and_hazards.md R97, R98). Nothing returns from a reject (R91). -/

namespace Sys2Proof.Machine

/-- `TRACE`, oldest event first (R18). -/
def State.trace (s : State) : List Event := s.log.reverse

/-- One action's event: the pins change, `TRACE` grows, `SEQ` advances (R8, R16), and the device meets the event. -/
def State.act (s : State) (e : Event) : State :=
  { s with bus := s.bus.after e, log := e :: s.log, seq := s.seq + 1, dev := s.dev.observe s.bus e }

/-- `set(L, a)` (R8). -/
def State.setLine (s : State) (l : Line) (a : Bool) : State := s.act (.line l a)

/-- `dir(d)` (R8). -/
def State.setDir (s : State) (d : Dir) : State := s.act (.dir d)

/-- `drive(v)` (R8). -/
def State.drive (s : State) (v : Byte) : State := s.act (.drive v)

/-- The down-counter is loaded (R93). -/
def State.loadTimer (s : State) (n : Nat) : State := { s with timer := n }

/-- The next action waits for the down-counter to reach zero (R93). -/
def State.awaitTimer (s : State) : State := { s with timer := 0 }

/-- `hold(n)` (R8, R93). -/
def State.hold (s : State) (n : Nat) : State := ((s.loadTimer n).act (.hold n)).awaitTimer

/-- A read pulse reaches the device: `CS = 1`, `RD = 1` and `RST = 0` (R33b). -/
def State.readsDevice (s : State) : Bool := s.bus.cs && s.bus.rd && !s.bus.rst

/-- The byte the data pins carry (R34): the environment's next byte, what the RDM fixes, or any byte. -/
def State.pinByte (s : State) : Byte :=
  match s.oracle with
  | .script (b :: _) => b
  | .script [] => Config.freeByte s.dev.draws
  | .device =>
    if s.readsDevice then (s.dev.readValue s.bus.cd).getD (Config.freeByte s.dev.draws)
    else Config.freeByte s.dev.draws

/-- The oracle after one sample (R34). -/
def Oracle.afterSample (o : Oracle) : Oracle :=
  match o with
  | .script (_ :: bs) => .script bs
  | .script [] => .script []
  | .device => .device

/-- `sample()`: the byte passes into `DIN` (R8, R15). One free value is drawn, used or not; it is free apart from the bytes of a
word the same read loses (R38c; notes 7). -/
def State.sample (s : State) : State :=
  { s.act (.sample s.pinByte) with
    din := s.pinByte
    oracle := s.oracle.afterSample
    dev := (s.dev.observe s.bus (.sample s.pinByte)).drawn }

/-- Acceptance: `BUSY <- 1`, `OP <- REQ`, `SEQ <- 0` (R16); the request joins the record of the run (R116). `FC` and `FR` keep
their values here: R16 names what acceptance sets, and R20's table says of them "written at acceptance"; the model writes them
at the start of each round of `FILLSCREEN`. DESIGN CHOICE (notes 12), unsafe. -/
def State.accept (s : State) (req : Request) : State :=
  { s with busy := true, op := req, seq := 0, accepted := s.accepted ++ [req] }

/-- The end of an operation: `STATUS` is written, the response given, `BUSY <- 0` (R16, R17, R44). -/
def State.finish (s : State) (status : BitVec 3) : State :=
  { s with
    status := status
    busy := false
    responses := s.responses ++ [responseWord status s.rdata] }

/-- `raise Reject(code)`: the operation ends with `STATUS <- code`; no line, no other register and no event changes (R7, R90). -/
def State.reject (s : State) (c : RejectCause) : State := s.finish (rejectCode c)

/-- `RDATA <- v` (R17). -/
def State.setRdata (s : State) (v : Word) : State := { s with rdata := v }

/-- `W <- v` (R15). -/
def State.setW (s : State) (v : Word) : State := { s with w := v }

/-- `COL <- c` (R15). -/
def State.setCol (s : State) (c : BitVec 7) : State := { s with col := c }

/-- `ROW <- r` (R15). -/
def State.setRow (s : State) (r : BitVec 8) : State := { s with row := r }

/-- `POS <- p` (R15). -/
def State.setPos (s : State) (p : BitVec 2) : State := { s with pos := p }

/-- `MIRROR.MX <- mx; MIRROR.MY <- my` (R14, R82). -/
def State.setMirror (s : State) (mx my : Bool) : State := { s with mirror := { mx := mx, my := my } }

/-- The loop counters of `FILLSCREEN`: a new round begins at the first action (R16; notes 12). -/
def State.beginRound (s : State) (fc : BitVec 7) (fr : BitVec 8) : State := { s with fc := fc, fr := fr, seq := 0 }

/-- The host's next move is taken. -/
def State.dropMove (s : State) : State := { s with host := s.host.tail }

/-- The block reset: all block state takes its reset value (R97, R20); the device and the host's side are not touched
(R99a). The record of the run begins anew, as `TRACE` does (notes 9). -/
def State.blockReset (s : State) : State :=
  { State.reset with responses := s.responses, host := s.host, oracle := s.oracle, dev := s.dev }

/-- The block reset during an operation: the operation is abandoned without a response, and the device state is then
unknown (R98; notes 10). DESIGN CHOICE (notes 10): the bytes an unconstrained environment gave to the part that ran are
not on its list, so the list stays as it was; R98 leaves open how many it gave. -/
def State.abandon (s : State) : State := { s.blockReset with dev := s.dev.lost }

end Sys2Proof.Machine
end

