-- ==== Sys2Proof/Machine/BusTransport.lean ====
section
/-! DEFINITION. Bus Transport (40_bus_transport.md R56 to R61): the byte pulses, and the meanings of `SETDIR`, `WRB`, `RDB`,
`SELCHIP`, `SELCMD`, `SETRST`. -/

namespace Sys2Proof.Machine

/-- The action sequence of `WRB` (R57). -/
def State.writePulse (s : State) (v : Byte) : State :=
  ((((s.setDir .out).drive v).setLine .wr true).hold Config.wrPulseMin).setLine .wr false

/-- The action sequence of `RDB`, without its response (R58): the byte sampled is left in `DIN`. -/
def State.readPulse (s : State) : State :=
  ((((s.setDir .inp).setLine .rd true).hold Config.rdPulseMin).sample).setLine .rd false

/-- The direction a `SETDIR` request asks for: 1 is output (R56). -/
def requestedDir (output : Bool) : Dir := if output then .out else .inp

/-- `SETDIR o` (R56). -/
def execSetDir (output : Bool) (s : State) : Host.Outcome State Fault Refusal :=
  if s.bus.cs && s.bus.dir != requestedDir output then .next (s.reject .refusedDir)
  else .next ((s.setDir (requestedDir output)).finish statusOk)

/-- `WRB v` (R57). -/
def execWrb (value : Byte) (s : State) : Host.Outcome State Fault Refusal :=
  .next ((s.writePulse value).finish statusOk)

/-- `RDATA <- zext_16(DIN)` (R17, R58). -/
def State.rdataFromDin (s : State) : State := s.setRdata (s.din.setWidth 16)

/-- `RDB` (R58). -/
def execRdb (s : State) : Host.Outcome State Fault Refusal :=
  .next (s.readPulse.rdataFromDin.finish statusOk)

/-- `SELCHIP a` (R59). -/
def execSelChip (active : Bool) (s : State) : Host.Outcome State Fault Refusal :=
  .next ((s.setLine .cs active).finish statusOk)

/-- `SELCMD k` (R60). -/
def execSelCmd (isCommand : Bool) (s : State) : Host.Outcome State Fault Refusal :=
  .next ((s.setLine .cd isCommand).finish statusOk)

/-- `SETRST a` (R61). -/
def execSetRst (active : Bool) (s : State) : Host.Outcome State Fault Refusal :=
  .next ((s.setLine .rst active).finish statusOk)

end Sys2Proof.Machine
end

