-- ==== Sys2Proof/Machine/WordProtocol.lean ====
section
/-! DEFINITION. Word Protocol (41_word_protocol.md R62 to R64): the action sequences of `SENDCMD`, `WRWORD` and `RDWORD`, which
every composite operation calls, and the three meanings. -/

namespace Sys2Proof.Machine

/-- The action sequence of `SENDCMD` (R62). -/
def State.sendCommand (s : State) (b : Byte) : State :=
  (((s.setLine .cs true).setLine .cd true).writePulse b).setLine .cs false

/-- The actions of `WRWORD` after `W <- v` (R63): the high byte of `W`, then its low byte. -/
def State.sendWord (s : State) : State :=
  ((((s.setLine .cs true).setLine .cd false).writePulse (highByte s.w)).writePulse (lowByte s.w)).setLine .cs false

/-- The action sequence of `WRWORD` (R63). -/
def State.writeWord (s : State) (v : Word) : State := (s.setW v).sendWord

/-- `RDWORD` up to its second pulse: the dummy byte passes through `DIN`, then the high byte (R64). -/
def State.readHigh (s : State) : State := ((s.setLine .cs true).setLine .cd false).readPulse.readPulse

/-- The action sequence of `RDWORD`, without its response (R64): `W <- hi:lo`. -/
def State.readWord (s : State) : State :=
  (s.readHigh.readPulse.setW (joinWord s.readHigh.din s.readHigh.readPulse.din)).setLine .cs false

/-- `SENDCMD b` (R62). -/
def execSendCmd (byte : Byte) (s : State) : Host.Outcome State Fault Refusal :=
  .next ((s.sendCommand byte).finish statusOk)

/-- `WRWORD v` (R63). -/
def execWrWord (value : Word) (s : State) : Host.Outcome State Fault Refusal :=
  .next ((s.writeWord value).finish statusOk)

/-- `RDATA <- W` (R17, R64). -/
def State.rdataFromW (s : State) : State := s.setRdata s.w

/-- `RDWORD` (R64). -/
def execRdWord (s : State) : Host.Outcome State Fault Refusal :=
  .next (s.readWord.rdataFromW.finish statusOk)

end Sys2Proof.Machine
end

