-- ==== Sys2Proof/Machine/CommandBytes.lean ====
section
/-! DEFINITION. The command bytes as instructions of their own (30_encoding.md R45, R46; the CMD8 rows of
spec/opcode_table.json): "command byte on the LCD bus (CD = 1), sent via SENDCMD". Each is its byte sent with the action
sequence of `SENDCMD`, and the device takes it as Device.lean says (20_memory.md R36); the block's own registers are not
written (R52). DEDUCED (notes 15), safe. -/

namespace Sys2Proof.Machine

/-- `CMD_COL_LOW` (R46, R36). -/
def execCmdColLow (lsb4 : BitVec 4) (s : State) : Host.Outcome State Fault Refusal :=
  .next ((s.sendCommand (encodeCommand (.colLow lsb4))).finish statusOk)

/-- `CMD_COL_HIGH` (R46, R36). -/
def execCmdColHigh (msb3 : BitVec 3) (s : State) : Host.Outcome State Fault Refusal :=
  .next ((s.sendCommand (encodeCommand (.colHigh msb3))).finish statusOk)

/-- `CMD_ROW_LOW` (R46, R36). -/
def execCmdRowLow (lsb4 : BitVec 4) (s : State) : Host.Outcome State Fault Refusal :=
  .next ((s.sendCommand (encodeCommand (.rowLow lsb4))).finish statusOk)

/-- `CMD_ROW_HIGH` (R46, R36). -/
def execCmdRowHigh (msb4 : BitVec 4) (s : State) : Host.Outcome State Fault Refusal :=
  .next ((s.sendCommand (encodeCommand (.rowHigh msb4))).finish statusOk)

/-- `CMD_VBIAS`: the device takes the next command byte as its value (R46, R51, R36). -/
def execCmdVbias (s : State) : Host.Outcome State Fault Refusal :=
  .next ((s.sendCommand (encodeCommand .vbias)).finish statusOk)

/-- `CMD_INVERSE` (R46, R36). -/
def execCmdInverse (enable : Bool) (s : State) : Host.Outcome State Fault Refusal :=
  .next ((s.sendCommand (encodeCommand (.inverse enable))).finish statusOk)

/-- `CMD_DISPEN` (R46, R36). -/
def execCmdDispen (sleep : Bool) (s : State) : Host.Outcome State Fault Refusal :=
  .next ((s.sendCommand (encodeCommand (.dispen sleep))).finish statusOk)

/-- `CMD_MAPPING`: the device's setting changes, `MIRROR` does not (R46, R36, R52). -/
def execCmdMapping (mirrorX mirrorY : Bool) (s : State) : Host.Outcome State Fault Refusal :=
  .next ((s.sendCommand (encodeCommand (.mapping mirrorX mirrorY))).finish statusOk)

/-- `CMD_COLORPAT` (R46, R36). -/
def execCmdColorPat (s : State) : Host.Outcome State Fault Refusal :=
  .next ((s.sendCommand (encodeCommand .colorPat)).finish statusOk)

/-- `CMD_COLORMODE` (R46, R36). -/
def execCmdColorMode (s : State) : Host.Outcome State Fault Refusal :=
  .next ((s.sendCommand (encodeCommand .colorMode)).finish statusOk)

/-- `CMD_SYSRESET`: the byte alone; the settle delay is `SYSRESET`'s (R46, R36, R54). -/
def execCmdSysReset (s : State) : Host.Outcome State Fault Refusal :=
  .next ((s.sendCommand (encodeCommand .sysReset)).finish statusOk)

end Sys2Proof.Machine
end

