-- ==== Sys2Proof/Machine/ControllerCommands.lean ====
section
/-! DEFINITION. Controller command operations (43_controller_commands.md R79 to R85). -/

namespace Sys2Proof.Machine

/-- `SETVBIAS v`: two commands, the second the raw value (R79). -/
def execSetVbias (value : Byte) (s : State) : Host.Outcome State Fault Refusal :=
  .next (((s.sendCommand (encodeCommand .vbias)).sendCommand value).finish statusOk)

/-- `SETINV e` (R80). -/
def execSetInv (enable : Bool) (s : State) : Host.Outcome State Fault Refusal :=
  .next ((s.sendCommand (encodeCommand (.inverse enable))).finish statusOk)

/-- `SETDISPEN s` (R81). -/
def execSetDispEn (sleep : Bool) (s : State) : Host.Outcome State Fault Refusal :=
  .next ((s.sendCommand (encodeCommand (.dispen sleep))).finish statusOk)

/-- `SETMAP mx, my`: the byte is sent, then `MIRROR` is written (R82). -/
def execSetMap (mirrorX mirrorY : Bool) (s : State) : Host.Outcome State Fault Refusal :=
  .next (((s.sendCommand (encodeCommand (.mapping mirrorX mirrorY))).setMirror mirrorX mirrorY).finish statusOk)

/-- `SETCOLORPAT` (R83). -/
def execSetColorPat (s : State) : Host.Outcome State Fault Refusal :=
  .next ((s.sendCommand (encodeCommand .colorPat)).finish statusOk)

/-- `SETCOLORMODE` (R84). -/
def execSetColorMode (s : State) : Host.Outcome State Fault Refusal :=
  .next ((s.sendCommand (encodeCommand .colorMode)).finish statusOk)

/-- `SYSRESET`: the command, then the settle delay (R85). -/
def execSysReset (s : State) : Host.Outcome State Fault Refusal :=
  .next (((s.sendCommand (encodeCommand .sysReset)).hold Config.sysresetSettleMin).finish statusOk)

end Sys2Proof.Machine
end

