-- ==== Sys2Proof/Machine/PixelOps.lean ====
section
/-! DEFINITION. Pixel Addressing & Packing (42_pixel_addressing.md R73 to R77): the address sequences and the meanings of
`SETCOL`, `SETROW`, `DRAWPIXEL`, `FILLSCREEN`, `DRAWTRIPLET`. -/

namespace Sys2Proof.Machine

/-- The two column-address command bytes of `COL`, low part first (R47, R73). -/
def State.sendColumn (s : State) : State :=
  (s.sendCommand (encodeCommand (.colLow (columnLow s.col)))).sendCommand (encodeCommand (.colHigh (columnHigh s.col)))

/-- The two row-address command bytes of `ROW`, low part first (R47, R74). -/
def State.sendRow (s : State) : State :=
  (s.sendCommand (encodeCommand (.rowLow (rowLow s.row)))).sendCommand (encodeCommand (.rowHigh (rowHigh s.row)))

/-- The four address bytes: column, then row (R24, R75). -/
def State.sendAddress (s : State) : State := s.sendColumn.sendRow

/-- `SETCOL c` (R73). -/
def execSetCol (column : Byte) (s : State) : Host.Outcome State Fault Refusal :=
  if inRangeColumn column.toNat then .next ((s.setCol (column.setWidth 7)).sendColumn.finish statusOk)
  else .next (s.reject .rejectRange)

/-- `SETROW r` (R74). -/
def execSetRow (row : Byte) (s : State) : Host.Outcome State Fault Refusal :=
  if inRangeRow row.toNat then .next ((s.setRow row).sendRow.finish statusOk)
  else .next (s.reject .rejectRange)

/-- The registers of an accepted `DRAWPIXEL`: `ROW <- r; COL <- c[6:0]; POS <- p` (R75). -/
def State.setTarget (s : State) (x y : Byte) : State :=
  ((s.setRow (BitVec.ofNat 8 (pixelRow y))).setCol (BitVec.ofNat 7 (pixelColumn x s.mirror.my))).setPos
    (positionBits (subPosition x s.mirror.my))

/-- Step 4 of `DRAWPIXEL`: `W <- update(W, POS, on)` (R75). -/
def State.modifyW (s : State) (pos : Fin 3) (on : Bool) : State := s.setW (updateWord s.w pos on)

/-- Steps 2 to 6 of `DRAWPIXEL` (R75). -/
def State.updatePixel (s : State) (pos : Fin 3) (on : Bool) : State :=
  (s.sendAddress.readWord.modifyW pos on).sendAddress.sendWord

/-- `DRAWPIXEL x, y, on` (R75). -/
def execDrawPixel (x y : Byte) (on : Bool) (s : State) : Host.Outcome State Fault Refusal :=
  if inRangeRow (pixelRow y) && inRangeColumn (pixelColumn x s.mirror.my) then
    .next (((s.setTarget x y).updatePixel (subPosition x s.mirror.my) on).finish statusOk)
  else .next (s.reject .rejectRange)

/-- One round of `FILLSCREEN`: the counters, `COL <- FC; ROW <- FR`, the address, the word `W` (R76). -/
def State.fillWord (s : State) (c r : Nat) : State :=
  (((s.beginRound (BitVec.ofNat 7 c) (BitVec.ofNat 8 r)).setCol (BitVec.ofNat 7 c)).setRow
    (BitVec.ofNat 8 r)).sendAddress.sendWord

/-- The inner loop of `FILLSCREEN`: rows ascending (R76). -/
def State.fillColumn (s : State) (c : Nat) : State :=
  (List.range Config.nRows).foldl (fun s r => s.fillWord c r) s

/-- The outer loop of `FILLSCREEN`: columns ascending (R76). -/
def State.fillWindow (s : State) : State :=
  (List.range Config.nWordCols).foldl (fun s k => s.fillColumn (Config.colBase + k)) s

/-- `FILLSCREEN on` (R76). -/
def execFillScreen (on : Bool) (s : State) : Host.Outcome State Fault Refusal :=
  .next ((s.setW (packWord on on on)).fillWindow.finish statusOk)

/-- `DRAWTRIPLET p1, p2, p3` (R77). -/
def execDrawTriplet (p1 p2 p3 : Bool) (s : State) : Host.Outcome State Fault Refusal :=
  .next ((s.writeWord (packWord p1 p2 p3)).finish statusOk)

end Sys2Proof.Machine
end

