-- ==== Sys2Proof/Machine/Dispatch.lean ====
section
/-! DEFINITION. The meaning of every instruction, one arm per constructor. -/

namespace Sys2Proof.Machine

def exec (i : Instr) (s : State) : Host.Outcome State Fault Refusal :=
  match i with
  | .setDir output => Sys2Proof.Machine.execSetDir output s
  | .wrb value => Sys2Proof.Machine.execWrb value s
  | .rdb => Sys2Proof.Machine.execRdb s
  | .selChip active => Sys2Proof.Machine.execSelChip active s
  | .selCmd isCommand => Sys2Proof.Machine.execSelCmd isCommand s
  | .setRst active => Sys2Proof.Machine.execSetRst active s
  | .sendCmd byte => Sys2Proof.Machine.execSendCmd byte s
  | .wrWord value => Sys2Proof.Machine.execWrWord value s
  | .rdWord => Sys2Proof.Machine.execRdWord s
  | .setCol column => Sys2Proof.Machine.execSetCol column s
  | .setRow row => Sys2Proof.Machine.execSetRow row s
  | .drawPixel x y on => Sys2Proof.Machine.execDrawPixel x y on s
  | .fillScreen on => Sys2Proof.Machine.execFillScreen on s
  | .drawTriplet p1 p2 p3 => Sys2Proof.Machine.execDrawTriplet p1 p2 p3 s
  | .setVbias value => Sys2Proof.Machine.execSetVbias value s
  | .setInv enable => Sys2Proof.Machine.execSetInv enable s
  | .setDispEn sleep => Sys2Proof.Machine.execSetDispEn sleep s
  | .setMap mirrorX mirrorY => Sys2Proof.Machine.execSetMap mirrorX mirrorY s
  | .setColorPat => Sys2Proof.Machine.execSetColorPat s
  | .setColorMode => Sys2Proof.Machine.execSetColorMode s
  | .sysReset => Sys2Proof.Machine.execSysReset s
  | .cmdColLow lsb4 => Sys2Proof.Machine.execCmdColLow lsb4 s
  | .cmdColHigh msb3 => Sys2Proof.Machine.execCmdColHigh msb3 s
  | .cmdRowLow lsb4 => Sys2Proof.Machine.execCmdRowLow lsb4 s
  | .cmdRowHigh msb4 => Sys2Proof.Machine.execCmdRowHigh msb4 s
  | .cmdVbias => Sys2Proof.Machine.execCmdVbias s
  | .cmdInverse enable => Sys2Proof.Machine.execCmdInverse enable s
  | .cmdDispen sleep => Sys2Proof.Machine.execCmdDispen sleep s
  | .cmdMapping mirrorX mirrorY => Sys2Proof.Machine.execCmdMapping mirrorX mirrorY s
  | .cmdColorPat => Sys2Proof.Machine.execCmdColorPat s
  | .cmdColorMode => Sys2Proof.Machine.execCmdColorMode s
  | .cmdSysReset => Sys2Proof.Machine.execCmdSysReset s

end Sys2Proof.Machine
end

