-- ==== Sys2Proof/Machine/Step.lean ====
section
/-! DEFINITION. One step. While the block is busy a step runs the accepted request `OP` from its first action to its
response, atomically (10_state.md R16; notes 2); while it is idle a step takes the host's next move (70_reset_and_hazards.md
R115), or changes nothing. -/

namespace Sys2Proof.Machine

/-- The accepted request runs: an illegal `OPC` is rejected first (60_exceptions.md R89), else the operation runs. -/
def State.runOp (s : State) : Host.Outcome State Fault Refusal :=
  match decodeRequest s.op with
  | .ok i => exec i s
  | .error _ => .next (s.reject .illegalOp)

/-- The idle block meets the host's next move (R115). A pause changes nothing: no rule depends on time (R8, R113). -/
def State.meetHost (s : State) : State :=
  match s.host with
  | [] => s
  | .request req :: _ => s.dropMove.accept req
  | .pause :: _ => s.dropMove
  | .blockReset :: _ => s.dropMove.blockReset
  | .requestThenReset _ :: _ => s.dropMove.abandon

/-- One step of the machine. -/
def step (s : State) : Host.Outcome State Fault Refusal :=
  if s.busy then s.runOp else .next s.meetHost

/-- The request word that makes the block send this command byte: `SENDCMD b` (R46, R53). -/
def commandRequest (b : Byte) : Request := requestWord 0x10#8 0#8 0#8 b

/-- `s` with the row's instruction where the next step fetches it: accepted in `OP` (R16). A command byte is fetched as the
`SENDCMD` request that sends it (notes 3, 15). -/
def State.withFetchWord (s : State) (nbits w : Nat) : State :=
  s.accept (if nbits = 8 then commandRequest (BitVec.ofNat 8 w) else BitVec.ofNat 32 w)

end Sys2Proof.Machine
end

