-- ==== Sys2Proof/Safety.lean ====
section
/-! DEFINITION. The terms claims are made in: the event sequences the operations append (40 to 43), what a moment of a trace
must satisfy (10_state.md R12), the invariant of the machine, frames, and the named launch premises of
70_reset_and_hazards.md R116. -/

namespace Sys2Proof.Machine

/-- The events of `WRB v` (R57). -/
def writePulseEvents (v : Byte) : List Event :=
  [.dir .out, .drive v, .line .wr true, .hold Config.wrPulseMin, .line .wr false]

/-- The events of `RDB` when the pins carry `v` (R58). -/
def readPulseEvents (v : Byte) : List Event :=
  [.dir .inp, .line .rd true, .hold Config.rdPulseMin, .sample v, .line .rd false]

/-- The events of `SENDCMD b` (R62). -/
def sendCmdEvents (b : Byte) : List Event :=
  [.line .cs true, .line .cd true] ++ writePulseEvents b ++ [.line .cs false]

/-- The events of `WRWORD v` (R63). -/
def wrWordEvents (v : Word) : List Event :=
  [.line .cs true, .line .cd false] ++ writePulseEvents (highByte v) ++ writePulseEvents (lowByte v) ++ [.line .cs false]

/-- The events of `RDWORD` when the pins carry `d`, `hi`, `lo` (R64). -/
def rdWordEvents (d hi lo : Byte) : List Event :=
  [.line .cs true, .line .cd false] ++ readPulseEvents d ++ readPulseEvents hi ++ readPulseEvents lo ++ [.line .cs false]

/-- The two command bytes of a column address (R47). -/
def columnBytes (c : BitVec 7) : List Byte :=
  [0x00#8 ||| (c.extractLsb' 0 4).setWidth 8, 0x10#8 ||| (c.extractLsb' 4 3).setWidth 8]

/-- The two command bytes of a row address (R47). -/
def rowBytes (r : BitVec 8) : List Byte :=
  [0x60#8 ||| (r.extractLsb' 0 4).setWidth 8, 0x70#8 ||| (r.extractLsb' 4 4).setWidth 8]

/-- The four address bytes: column, then row (R24, R75). -/
def addressBytes (c : BitVec 7) (r : BitVec 8) : List Byte := columnBytes c ++ rowBytes r

/-- The events of several commands, one `SENDCMD` each (R54). -/
def commandEvents (bs : List Byte) : List Event := (bs.map sendCmdEvents).flatten

/-- The transfers of several commands. -/
def commandTransfers (bs : List Byte) : List Transfer := bs.map (.write true)

/-- The transfers of a word written (R63). -/
def wordTransfers (v : Word) : List Transfer := [.write false (highByte v), .write false (lowByte v)]

/-- The transfers of a word read (R64). -/
def readTransfers (d hi lo : Byte) : List Transfer := [.read false d, .read false hi, .read false lo]

/-- The events of an accepted `DRAWPIXEL` at column `c`, row `r`, sub-position `p`, when the pins carry `d`, `hi`, `lo`
(R75). -/
def drawPixelEvents (c : BitVec 7) (r : BitVec 8) (p : Fin 3) (on : Bool) (d hi lo : Byte) : List Event :=
  commandEvents (addressBytes c r) ++ rdWordEvents d hi lo ++ commandEvents (addressBytes c r) ++
    wrWordEvents (updateWord (joinWord hi lo) p on)

/-- The transfers of an accepted `DRAWPIXEL` (R75a). -/
def drawPixelTransfers (c : BitVec 7) (r : BitVec 8) (p : Fin 3) (on : Bool) (d hi lo : Byte) : List Transfer :=
  commandTransfers (addressBytes c r) ++ readTransfers d hi lo ++ commandTransfers (addressBytes c r) ++
    wordTransfers (updateWord (joinWord hi lo) p on)

/-- The words of the window in the order `FILLSCREEN` writes them: columns outermost, rows innermost (R76a). -/
def fillOrder : List (Nat × Nat) :=
  (List.range 54).flatMap (fun k => (List.range 160).map (fun r => (37 + k, r)))

/-- The events of one word of `FILLSCREEN` (R76). -/
def fillWordEvents (v : Word) (cr : Nat × Nat) : List Event :=
  commandEvents (addressBytes (BitVec.ofNat 7 cr.1) (BitVec.ofNat 8 cr.2)) ++ wrWordEvents v

/-- The transfers of one word of `FILLSCREEN` (R76). -/
def fillWordTransfers (v : Word) (cr : Nat × Nat) : List Transfer :=
  commandTransfers (addressBytes (BitVec.ofNat 7 cr.1) (BitVec.ofNat 8 cr.2)) ++ wordTransfers v

/-- The events of `FILLSCREEN` (R76). -/
def fillEvents (v : Word) : List Event := fillOrder.flatMap (fillWordEvents v)

/-- A transfer moves a byte to the device (R33). -/
def Transfer.isWrite : Transfer → Bool
  | .write _ _ => true
  | .read _ _ => false

/-- The device meets one event: it takes the transfer or the reset, and a sample draws one free value (R33, R39; notes 7). -/
def Device.meet (b : Bus) (e : Event) (d : Device) : Device :=
  match e with
  | .sample v => (d.observe b (.sample v)).drawn
  | .line l a => d.observe b (.line l a)
  | .dir x => d.observe b (.dir x)
  | .drive v => d.observe b (.drive v)
  | .hold n => d.observe b (.hold n)

/-- The device meets a list of events, from the given pins. -/
def Device.follow : Bus → List Event → Device → Device
  | _, [], d => d
  | b, e :: es, d => Device.follow (b.after e) es (d.meet b e)

/-- Several operations one after another (R54): the state after the last, if each answers a next state. -/
def runAll : List Instr → State → Option State
  | [], s => some s
  | i :: is, s =>
    match exec i s with
    | .next t => runAll is t
    | .fault _ => none
    | .refused _ => none

/-- The number of events, of write transfers and of read transfers of an operation, and its holds under a strobe, all for
a device selected and out of reset as the operation finds it (R113). -/
def State.counts (s t : State) (events writes reads strobe : Nat) : Prop :=
  ∃ es, t.trace = s.trace ++ es ∧ es.length = events ∧
    ((s.bus.transfers es).filter Transfer.isWrite).length = writes ∧
    ((s.bus.transfers es).filter (fun x => !x.isWrite)).length = reads ∧
    s.bus.strobeCycles es = strobe

/-- At one moment: at most one strobe is asserted; a read strobe only with `DIR = IN`, a write strobe only with `DIR = OUT`
(R12a, d). -/
def Bus.orderly (b : Bus) : Bool :=
  !(b.rd && b.wr) && (!b.rd || b.dir == .inp) && (!b.wr || b.dir == .out)

/-- At every moment of a list of events the pins are orderly, and `DOUT` does not change under the write strobe (R12a, d). -/
def Bus.disciplined : Bus → List Event → Bool
  | b, [] => b.orderly
  | b, e :: es => b.orderly && (!b.wr || (b.after e).dout == b.dout) && Bus.disciplined (b.after e) es

/-- Between operations no strobe is asserted (R12b). -/
def Bus.quiet (b : Bus) : Prop := b.rd = false ∧ b.wr = false ∧ b.pulse = false

/-- The lines are what the trace since reset made them, at every moment in order (R12, R18). -/
def State.LinesInv (s : State) : Prop :=
  s.bus.quiet ∧ Bus.reset.run s.trace = s.bus ∧ Bus.reset.disciplined s.trace = true

/-- The registers hold legal values (R15, R16, R17); a column register nothing has written yet holds 0 (notes 4). -/
def State.RegistersInv (s : State) : Prop :=
  (s.col = 0 ∨ inRangeColumn s.col.toNat = true) ∧ inRangeRow s.row.toNat = true ∧ s.pos ≠ 3#2 ∧
  (s.fc = 0 ∨ inRangeColumn s.fc.toNat = true) ∧ inRangeRow s.fr.toNat = true ∧
  s.status.toNat ≤ 3 ∧ s.timer = 0

/-- The display RAM keeps its canonical form (notes 5). -/
def State.MemoryInv (s : State) : Prop := Memory.wf s.dev.mem

/-- The invariant every step keeps. -/
def State.Inv (s : State) : Prop := s.LinesInv ∧ s.RegistersInv ∧ s.MemoryInv

/-- Frame: `MIRROR`, `ROW`, `COL`, `POS`, the loop counters, `OP` and the host's pending moves are as before. -/
def State.sameControl (s t : State) : Prop :=
  t.mirror = s.mirror ∧ t.row = s.row ∧ t.col = s.col ∧ t.pos = s.pos ∧ t.fc = s.fc ∧ t.fr = s.fr ∧ t.op = s.op ∧
  t.host = s.host

/-- Frame: the control registers, and `W`, `DIN`, `RDATA`, are as before. -/
def State.sameRegisters (s t : State) : Prop :=
  s.sameControl t ∧ t.w = s.w ∧ t.din = s.din ∧ t.rdata = s.rdata

/-- The operation has ended with this status: `STATUS`, `BUSY` and the response given (R16, R17, R44). -/
def State.endedWith (s t : State) (status : BitVec 3) : Prop :=
  t.status = status ∧ t.busy = false ∧ t.responses = s.responses ++ [responseWord status t.rdata]

/-- Every byte of display RAM reads as before (R35). -/
def Device.sameRam (d e : Device) : Prop := ∀ a, e.byteAt a = d.byteAt a

/-- Every byte of display RAM but the two of the word at (r, c) reads as before. -/
def Device.sameRamBut (d e : Device) (r c : Nat) : Prop :=
  ∀ a, a ≠ Memory.wordAddr r c → a ≠ Memory.wordAddr r c + 1 → e.byteAt a = d.byteAt a

/-- The command bytes were sent, one `SENDCMD` each, and nothing else happened (R54, R62): the events; `SEQ`; the lines as
`SENDCMD` leaves them; the oracle; the device has taken each byte as a command transfer, if it is out of reset (R33). -/
def State.sentCommands (s t : State) (bs : List Byte) : Prop :=
  t.trace = s.trace ++ commandEvents bs ∧ t.seq = s.seq + 8 * bs.length ∧
  t.bus = { s.bus with cs := false, cd := true, dir := .out, dout := bs.getLastD s.bus.dout, wr := false, pulse := false } ∧
  t.oracle = s.oracle ∧
  t.dev = if s.bus.rst then s.dev else s.dev.run (commandTransfers bs)

/-- No half-written word is pending (R36, R37). -/
def Phase.whole (ph : Phase) : Prop := ∀ h, ph ≠ .w1 h

/-- The device takes a command byte as a command and loses nothing by it: it is out of reset, the last byte was not `0x81`,
and no half-written word is pending (R33, R36). -/
def State.deviceReady (s : State) : Prop :=
  s.bus.rst = false ∧ s.dev.vb = false ∧ s.dev.ph.whole

/-- The device's cursor (R35). -/
def Device.cursorAt (d : Device) (r c : Nat) : Prop := d.crow.toNat = r ∧ d.ccol.toNat = c

/-- `mirror_agrees` (R107, R116): the device's mapping setting is the block's `MIRROR`. -/
def State.mirrorAgrees (s : State) : Prop := s.dev.settings.mapping = some s.mirror

/-- `all_ok` (R116): every response was `OK`. -/
def State.allOk (s : State) : Prop := ∀ r ∈ s.responses, responseStatus r = statusOk

/-- `ram_known(r, c)` (R116): an addressed write (R40a) has stored this word since the device was last reset, and nothing has
made the word arbitrary after it (notes 27). -/
def State.ramKnown (s : State) (r c : Nat) : Prop := Memory.wordAddr r c ∈ s.dev.written

/-- The requests whose response has been given, since the block's reset: the last one accepted is still running while
`BUSY = 1` (R16, R116). -/
def State.answered (s : State) : List Request := if s.busy then s.accepted.dropLast else s.accepted

/-- The operations that have ended since the block's reset, oldest first; an illegal request is none (R42, R50). -/
def State.operations (s : State) : List Instr := s.answered.filterMap (fun w => (decodeRequest w).toOption)

/-- The requests that reset the device (R99b, c). -/
def resetsDevice (i : Instr) : Prop := i = .setRst true ∨ i = .sysReset

/-- The requests after which the host owes a `SETMAP` (R100, R115): `SETRST` with either operand, and `SYSRESET`. -/
def owesMap (i : Instr) : Prop := (∃ a, i = .setRst a) ∨ i = .sysReset

/-- The premise R100 names: "a `SETMAP` has been executed since the last of block reset, `SETRST` and `SYSRESET`". Whether its
byte reached the device is `State.mirrorAgrees`. -/
def State.mapSet (s : State) : Prop :=
  ∃ a mx my b, s.operations = a ++ [.setMap mx my] ++ b ∧ ∀ i ∈ b, ¬owesMap i

/-- The commands of R100 step 5 that the document gives are among these operations, in any order; the others of the step are
opaque bytes, sent with `SENDCMD` at any place. -/
def initialised (is : List Instr) : Prop :=
  .setColorPat ∈ is ∧ .setColorMode ∈ is ∧ (∃ mx my, .setMap mx my ∈ is) ∧ (∃ v, .setVbias v ∈ is) ∧
  ∃ e, .setDispEn e ∈ is

/-- `booted` (R100 steps 1 to 5, R116): since the block's reset (step 1) the operations `SETRST 1`, `SETRST 0`, `SYSRESET` and the
commands of step 5 have ended in this order, the device was not reset after, and it holds a value of each setting, so that no
byte sent underneath the block reset it either (R108). The waits of 100 ms are the host's and no part of it (notes 14). -/
def State.booted (s : State) : Prop :=
  (∃ a b c d, s.operations = a ++ [.setRst true] ++ b ++ [.setRst false] ++ c ++ [.sysReset] ++ d ∧
    .setRst false ∉ b ∧ .setRst true ∉ c ∧ (∀ i ∈ d, ¬resetsDevice i) ∧ initialised d) ∧
  s.dev.settings.colorPattern = true ∧ s.dev.settings.colorMode = true ∧
  s.dev.settings.mapping.isSome = true ∧ s.dev.settings.vbias.isSome = true ∧ s.dev.settings.sleep.isSome = true

/-- The byte a read pulse that starts now will sample (R34, R58): the pins with the read strobe asserted. -/
def State.pulseByte (s : State) : Byte :=
  match s.oracle with
  | .script (b :: _) => b
  | .script [] => Config.freeByte s.dev.draws
  | .device =>
    if s.bus.cs && !s.bus.rst then (s.dev.readValue s.bus.cd).getD (Config.freeByte s.dev.draws)
    else Config.freeByte s.dev.draws

end Sys2Proof.Machine
end

