-- ==== Sys2Proof/Certificates/Slice0/Obligations.lean ====
section
/-! DEFINITION. The statements for the provers, from the numbered rules of spec/. Where the spec leaves a value open the
statement holds for every value of it. -/

open Sys2Proof Sys2Proof.Machine

/-! ## Encodings -/

/-- Decode and encode agree: every instruction's encoding decodes to it, with every operand at every value (R41 to R46, R53). -/
def Obligations.DecodeOfEncodeIsTheInstruction : Prop :=
  ∀ i : Instr, decode (encode i) = .ok i

/-- Each canonical request word and each listed command byte is the encoding of the instruction it decodes to (R46, R53). -/
def Obligations.EncodeOfDecodeIsTheWord : Prop :=
  (∀ w, WellFormed.canonicalRequest w = true → ∃ i, decodeRequest w = .ok i ∧ encode i = .request w) ∧
  (∀ b, WellFormed.listedCommand b = true → ∃ c, decodeCommand b = .ok c ∧ encode c.toInstr = .command b)

/-- R42 and R43: the operation code selects the operation, its operands are the bits the table names, and the other 235
codes are illegal. -/
def Obligations.RequestFieldsDecodeAsTabled : Prop :=
  operationCodes.Nodup ∧ operationCodes.length = 21 ∧
  ∀ w : Request,
    let opc := w.extractLsb' 24 8
    let a := w.extractLsb' 16 8
    let b := w.extractLsb' 8 8
    let c := w.extractLsb' 0 8
    (opc = 0x01#8 → decodeRequest w = .ok (.setDir (w.getLsbD 0))) ∧
    (opc = 0x02#8 → decodeRequest w = .ok (.wrb c)) ∧
    (opc = 0x03#8 → decodeRequest w = .ok .rdb) ∧
    (opc = 0x04#8 → decodeRequest w = .ok (.selChip (w.getLsbD 0))) ∧
    (opc = 0x05#8 → decodeRequest w = .ok (.selCmd (w.getLsbD 0))) ∧
    (opc = 0x06#8 → decodeRequest w = .ok (.setRst (w.getLsbD 0))) ∧
    (opc = 0x10#8 → decodeRequest w = .ok (.sendCmd c)) ∧
    (opc = 0x11#8 → decodeRequest w = .ok (.wrWord (b ++ c))) ∧
    (opc = 0x12#8 → decodeRequest w = .ok .rdWord) ∧
    (opc = 0x20#8 → decodeRequest w = .ok (.setCol c)) ∧
    (opc = 0x21#8 → decodeRequest w = .ok (.setRow c)) ∧
    (opc = 0x22#8 → decodeRequest w = .ok (.drawPixel a b (w.getLsbD 0))) ∧
    (opc = 0x23#8 → decodeRequest w = .ok (.fillScreen (w.getLsbD 0))) ∧
    (opc = 0x24#8 → decodeRequest w = .ok (.drawTriplet (w.getLsbD 2) (w.getLsbD 1) (w.getLsbD 0))) ∧
    (opc = 0x30#8 → decodeRequest w = .ok (.setVbias c)) ∧
    (opc = 0x31#8 → decodeRequest w = .ok (.setInv (w.getLsbD 0))) ∧
    (opc = 0x32#8 → decodeRequest w = .ok (.setDispEn (w.getLsbD 0))) ∧
    (opc = 0x33#8 → decodeRequest w = .ok (.setMap (w.getLsbD 2) (w.getLsbD 1))) ∧
    (opc = 0x34#8 → decodeRequest w = .ok .setColorPat) ∧
    (opc = 0x35#8 → decodeRequest w = .ok .setColorMode) ∧
    (opc = 0x36#8 → decodeRequest w = .ok .sysReset) ∧
    (opc ∉ operationCodes → decodeRequest w = .error (.illegalOpc opc))

/-- R41: "Operand bits that an operation does not use (rule R43) are ignored: they may hold anything and have no effect". -/
def Obligations.UnusedOperandBitsAreIgnored : Prop :=
  ∀ w w' : Request, w &&& usedBits (opcField w) = w' &&& usedBits (opcField w) → decodeRequest w = decodeRequest w'

/-- R46: the eleven patterns do not overlap, cover 68 of the 256 byte values, and a byte decodes exactly when it matches one. -/
def Obligations.CommandPatternsDoNotOverlap : Prop :=
  (∀ b : Byte, (commandRows.filter (matchesRow b)).length ≤ 1) ∧
  ((List.range 256).filter (fun n => WellFormed.listedCommand (BitVec.ofNat 8 n))).length = 68 ∧
  ∀ b : Byte, (∃ c, decodeCommand b = .ok c) ↔ WellFormed.listedCommand b = true

/-- Words written out from the encodings decode to what they stand for (a sanity check on fixed words; R53, R46). -/
def Obligations.SampleWordsDecode : Prop :=
  decodeTableWord 32 0x01000001 = some (.setDir true) ∧
  decodeTableWord 32 0x1100ABCD = some (.wrWord 0xABCD#16) ∧
  decodeTableWord 32 0x22046400 = some (.drawPixel 4#8 100#8 false) ∧
  decodeTableWord 32 0x33000002 = some (.setMap false true) ∧
  decodeTableWord 32 0x37000000 = none ∧
  decodeTableWord 8 0x12 = some (.cmdColHigh 2#3) ∧
  decodeTableWord 8 0xC4 = some (.cmdMapping true false) ∧
  decodeTableWord 8 0x2F = none

/-! ## Pure functions -/

/-- R78 (a) to (e): how the translation lays the x coordinates over columns and sub-positions; which sub-pixels of the window
none of 0 to 159 reaches. -/
def Obligations.TranslationLaysPixelsInThrees : Prop :=
  (∀ k j : Nat, j < 3 → 3 * k + j < 256 →
    pixelColumn (BitVec.ofNat 8 (3 * k + j)) false = 37 + k ∧ (subPosition (BitVec.ofNat 8 (3 * k + j)) false).val = j) ∧
  (pixelColumn 0#8 true = 37 ∧ (subPosition 0#8 true).val = 0 ∧ ∀ x : Byte, pixelColumn x true = 37 → x = 0#8) ∧
  (∀ k j : Nat, j < 3 → 3 * k + 1 + j < 256 →
    pixelColumn (BitVec.ofNat 8 (3 * k + 1 + j)) true = 38 + k ∧
    (subPosition (BitVec.ofNat 8 (3 * k + 1 + j)) true).val = 2 - j) ∧
  (∀ (x x' : Byte) (my : Bool), x.toNat ≤ 159 → x'.toNat ≤ 159 → pixelColumn x my = pixelColumn x' my →
    subPosition x my = subPosition x' my → x = x') ∧
  (∀ (x : Byte) (my : Bool), x.toNat ≤ 159 → 37 ≤ pixelColumn x my ∧ pixelColumn x my ≤ 90) ∧
  (∀ (c : Nat) (p : Fin 3) (my : Bool), 37 ≤ c → c ≤ 90 →
    ((¬∃ x : Byte, x.toNat ≤ 159 ∧ pixelColumn x my = c ∧ subPosition x my = p) ↔
      p ≠ 0 ∧ c = if my then 37 else 90)) ∧
  (∀ (x x' : Byte) (my : Bool), x'.toNat = x.toNat + 3 →
    pixelColumn x' my = pixelColumn x my + 1 ∧ subPosition x' my = subPosition x my)

/-- R70: the two cases of update, and its laws: isolation for every word, the field set or cleared as a whole, idempotence, and
updates at different places commute. -/
def Obligations.UpdateTouchesOneFieldOnly : Prop :=
  ∀ (w : Word) (p q : Fin 3) (a b : Bool),
    updateWord w p true = w ||| fieldMask p ∧ updateWord w p false = w &&& ~~~fieldMask p ∧
    updateWord w p a &&& ~~~fieldMask p = w &&& ~~~fieldMask p ∧
    updateWord w p true &&& fieldMask p = fieldMask p ∧
    updateWord w p false &&& fieldMask p = 0#16 ∧
    updateWord (updateWord w p a) p a = updateWord w p a ∧
    (p ≠ q → updateWord (updateWord w p a) q b = updateWord (updateWord w q b) p a)

/-- R68 and R71: the masks; what pack builds, as a formula and as the eight words (R49), each field full or clear. -/
def Obligations.PackedWordsAreTheEight : Prop :=
  fieldMask 0 = 0xF800#16 ∧ fieldMask 1 = 0x07E0#16 ∧ fieldMask 2 = 0x001F#16 ∧
  (∀ p q : Fin 3, p ≠ q → fieldMask p &&& fieldMask q = 0#16) ∧
  fieldMask 0 ||| fieldMask 1 ||| fieldMask 2 = 0xFFFF#16 ∧
  (∀ p1 p2 p3 : Bool, packWord p1 p2 p3 =
    (if p1 then 0xF800#16 else 0#16) ||| (if p2 then 0x07E0#16 else 0#16) ||| (if p3 then 0x001F#16 else 0#16)) ∧
  (∀ p1 p2 p3 : Bool, packWord p1 p2 p3 &&& fieldMask 0 = (if p1 then fieldMask 0 else 0#16) ∧
    packWord p1 p2 p3 &&& fieldMask 1 = (if p2 then fieldMask 1 else 0#16) ∧
    packWord p1 p2 p3 &&& fieldMask 2 = (if p3 then fieldMask 2 else 0#16)) ∧
  packWord false false false = 0x0000#16 ∧ packWord false false true = 0x001F#16 ∧
  packWord false true false = 0x07E0#16 ∧ packWord false true true = 0x07FF#16 ∧
  packWord true false false = 0xF800#16 ∧ packWord true false true = 0xF81F#16 ∧
  packWord true true false = 0xFFE0#16 ∧ packWord true true true = 0xFFFF#16

/-- R65, R66, R67: row, column and sub-position, on natural numbers without wrap-around. R72: the two range checks, which
coordinates they accept in each mode, and that x = 160, 161 then fall on column 90. -/
def Obligations.RangeCheckAcceptsTheseCoordinates : Prop :=
  (∀ n : Nat, (inRangeRow n = true ↔ n ≤ 159) ∧ (inRangeColumn n = true ↔ 37 ≤ n ∧ n ≤ 90)) ∧
  (∀ (x y : Byte) (my : Bool),
    pixelRow y = y.toNat ∧ pixelColumn x false = 37 + x.toNat / 3 ∧ pixelColumn x true = 37 + (x.toNat + 2) / 3 ∧
    (subPosition x false).val = x.toNat % 3 ∧ (x.toNat % 3 = 0 → (subPosition x true).val = 0) ∧
    (x.toNat % 3 = 1 → (subPosition x true).val = 2) ∧ (x.toNat % 3 = 2 → (subPosition x true).val = 1) ∧
    (x.toNat ≤ 159 → 37 ≤ pixelColumn x my ∧ pixelColumn x my ≤ 90) ∧
    37 ≤ pixelColumn x my ∧ pixelColumn x my ≤ 122 ∧
    (inRangeRow (pixelRow y) = true ↔ y.toNat ≤ 159) ∧
    (inRangeColumn (pixelColumn x my) = true ↔ if my then x.toNat ≤ 159 else x.toNat ≤ 161)) ∧
  pixelColumn 160#8 false = 90 ∧ (subPosition 160#8 false).val = 1 ∧ pixelColumn 161#8 false = 90 ∧
  (subPosition 161#8 false).val = 2

/-- R47: the address split, low part first; the second bytes' ranges inside the window; `SETCOL 38` gives 0x06, 0x12 (C10). -/
def Obligations.AddressBytesSplitTheAddress : Prop :=
  (∀ c : BitVec 7, 37 ≤ c.toNat → c.toNat ≤ 90 → ∃ l h : Byte, columnBytes c = [l, h] ∧
    l.toNat ≤ 0x0F ∧ 0x12 ≤ h.toNat ∧ h.toNat ≤ 0x15 ∧ c.toNat = 16 * (h.toNat - 0x10) + l.toNat) ∧
  (∀ r : BitVec 8, r.toNat ≤ 159 → ∃ l h : Byte, rowBytes r = [l, h] ∧
    0x60 ≤ l.toNat ∧ l.toNat ≤ 0x6F ∧ 0x70 ≤ h.toNat ∧ h.toNat ≤ 0x79 ∧
    r.toNat = 16 * (h.toNat - 0x70) + (l.toNat - 0x60)) ∧
  columnBytes 38#7 = [0x06#8, 0x12#8]

/-! ## The sequencer -/

/-- A step of the busy block runs the accepted request's instruction, and nothing is added around it (R16). -/
def Obligations.StepRunsTheDecodedInstruction : Prop :=
  ∀ (s : State) (i : Instr), s.busy = true → decodeRequest s.op = .ok i → step s = exec i s

/-- A listed command byte, fetched as the `SENDCMD` request that carries it, runs as its own instruction (R52; notes 15). -/
def Obligations.StepRunsTheCommandByte : Prop :=
  ∀ (s : State) (b : Byte) (c : Command), decodeCommand b = .ok c →
    step (s.withFetchWord 8 b.toNat) = exec c.toInstr (s.withFetchWord 8 b.toNat)

/-- R50 and R90: an illegal request ends with `ILLEGAL_OP`, and nothing changes but `STATUS`, `BUSY` and the response. -/
def Obligations.IllegalRequestIsRejected : Prop :=
  ∀ s : State, s.busy = true → opcField s.op ∉ operationCodes →
    step s = .next { s with status := 2#3, busy := false, responses := s.responses ++ [responseWord 2#3 s.rdata] }

/-- R16: acceptance while idle; R114: every accepted request ends with one response; while it runs, the host's moves wait.
Of acceptance R16 gives `BUSY`, `OP` and `SEQ`; that it leaves `FC` and `FR` is the model's choice (notes 12), and the record of
accepted requests is the model's own field (notes 14). -/
def Obligations.RequestIsAcceptedAndAnswered : Prop :=
  (∀ (s : State) (r : Request) (ms : List HostMove), s.busy = false → s.host = .request r :: ms →
    step s = .next { s with host := ms, busy := true, op := r, seq := 0, accepted := s.accepted ++ [r] }) ∧
  (∀ s : State, s.busy = true → ∃ t, step s = .next t ∧ t.busy = false ∧ t.host = s.host ∧ t.accepted = s.accepted ∧
    t.responses = s.responses ++ [responseWord t.status t.rdata])

/-- R115: what the idle block does with the host's other moves; with none pending it stays as it is (R116). The block reset
restores the block and leaves the device alone (R97, R99a). R98: a request cut by the block reset gives no response, and what
the device held is not known (notes 9, 10). -/
def Obligations.IdleBlockFollowsTheHost : Prop :=
  ∀ (s : State) (ms : List HostMove) (r : Request), s.busy = false →
    (s.host = [] → step s = .next s) ∧
    (s.host = .pause :: ms → step s = .next { s with host := ms }) ∧
    (s.host = .blockReset :: ms → ∃ t, step s = .next t ∧ t.host = ms ∧ t.busy = false ∧ t.trace = [] ∧ t.accepted = [] ∧
      t.bus.cs = false ∧ t.bus.cd = false ∧ t.bus.rd = false ∧ t.bus.wr = false ∧ t.bus.rst = false ∧ t.bus.dir = .out ∧
      t.mirror = { mx := false, my := false } ∧ t.responses = s.responses ∧ t.oracle = s.oracle ∧ t.dev = s.dev) ∧
    (s.host = .requestThenReset r :: ms → ∃ t, step s = .next t ∧ t.host = ms ∧ t.busy = false ∧ t.trace = [] ∧ t.accepted = [] ∧
      t.bus.cs = false ∧ t.bus.cd = false ∧ t.bus.rd = false ∧ t.bus.wr = false ∧ t.bus.rst = false ∧ t.bus.dir = .out ∧
      t.mirror = { mx := false, my := false } ∧ t.responses = s.responses ∧
      t.dev.mem = [] ∧ t.dev.epoch = s.dev.draws ∧ t.dev.ph = .u ∧ t.dev.settings = Settings.unknown)

/-! ## Bus Transport -/

/-- R56: a `SETDIR` that would change the direction under chip-select is refused and changes nothing else (R90); any other sets
the direction, and the event is appended even where nothing changes. -/
def Obligations.SetDirSetsOrRefuses : Prop :=
  (∀ w : Request, w.extractLsb' 24 8 = 0x01#8 → decodeRequest w = .ok (.setDir (w.getLsbD 0))) ∧
  (∀ (o : Bool) (s : State), ¬(s.bus.cs = true ∧ s.bus.dir ≠ if o then Dir.out else Dir.inp) →
    ∃ t, exec (.setDir o) s = .next t ∧ s.endedWith t 0#3 ∧ s.sameRegisters t ∧
      t.trace = s.trace ++ [.dir (if o then Dir.out else Dir.inp)] ∧ t.seq = s.seq + 1 ∧
      t.bus = { s.bus with dir := if o then Dir.out else Dir.inp } ∧
      t.oracle = s.oracle ∧ t.dev = s.dev ∧ t.timer = s.timer) ∧
  (∀ (o : Bool) (s : State), s.bus.cs = true → (s.bus.dir ≠ if o then Dir.out else Dir.inp) →
    exec (.setDir o) s =
      .next { s with status := 3#3, busy := false, responses := s.responses ++ [responseWord 3#3 s.rdata] })

/-- R57: `WRB` drives the byte, pulses the write strobe, and touches neither `CS` nor `CD`; R33: the device takes it if selected
and out of reset. -/
def Obligations.WriteByteDrivesAndPulses : Prop :=
  (∀ w : Request, w.extractLsb' 24 8 = 0x02#8 → decodeRequest w = .ok (.wrb (w.extractLsb' 0 8))) ∧
  (∀ (v : Byte) (s : State), ∃ t, exec (.wrb v) s = .next t ∧ s.endedWith t 0#3 ∧ s.sameRegisters t ∧
    t.trace = s.trace ++ [.dir .out, .drive v, .line .wr true, .hold Config.wrPulseMin, .line .wr false] ∧
    t.seq = s.seq + 5 ∧
    t.bus = { s.bus with dir := .out, dout := v, wr := false, pulse := false } ∧ t.oracle = s.oracle ∧
    t.dev = if s.bus.cs = true ∧ s.bus.rst = false then s.dev.receive (.write s.bus.cd v) else s.dev)

/-- R58: `RDB` samples under the strobe; the byte passes into `DIN` and `RDATA`; R34: it is whatever the environment gives, or
under the device model what the model fixes. -/
def Obligations.ReadByteSamplesThePins : Prop :=
  (∀ w : Request, w.extractLsb' 24 8 = 0x03#8 → decodeRequest w = .ok .rdb) ∧
  (∀ s : State, ∃ t v, exec .rdb s = .next t ∧ s.endedWith t 0#3 ∧ s.sameControl t ∧ t.w = s.w ∧
    t.trace = s.trace ++ [.dir .inp, .line .rd true, .hold Config.rdPulseMin, .sample v, .line .rd false] ∧
    t.seq = s.seq + 5 ∧ t.din = v ∧ t.rdata = v.setWidth 16 ∧
    t.bus = { s.bus with dir := .inp, rd := false } ∧
    (∀ b bs, s.oracle = .script (b :: bs) → v = b ∧ t.oracle = .script bs) ∧
    (∀ b, s.oracle = .device → s.bus.cs = true → s.bus.rst = false → s.dev.readValue s.bus.cd = some b → v = b) ∧
    (t.dev = if s.bus.cs = true ∧ s.bus.rst = false then (s.dev.receive (.read s.bus.cd v)).drawn else s.dev.drawn))

/-- R59, R60: `SELCHIP` and `SELCMD` set a level and do nothing else. -/
def Obligations.SelectLinesSetALevel : Prop :=
  ∀ (a : Bool) (s : State),
    (∃ t, exec (.selChip a) s = .next t ∧ s.endedWith t 0#3 ∧ s.sameRegisters t ∧
      t.trace = s.trace ++ [.line .cs a] ∧ t.seq = s.seq + 1 ∧
      t.bus = { s.bus with cs := a, pulse := s.bus.pulse && a } ∧ t.oracle = s.oracle ∧ t.dev = s.dev ∧ t.timer = s.timer) ∧
    (∃ t, exec (.selCmd a) s = .next t ∧ s.endedWith t 0#3 ∧ s.sameRegisters t ∧
      t.trace = s.trace ++ [.line .cd a] ∧ t.seq = s.seq + 1 ∧
      t.bus = { s.bus with cd := a } ∧ t.oracle = s.oracle ∧ t.dev = s.dev ∧ t.timer = s.timer)

/-- R61: `SETRST` sets the reset line and no other block state; R39: the line's rise makes the device forget everything. -/
def Obligations.ResetLineMakesTheDeviceForget : Prop :=
  ∀ (a : Bool) (s : State), ∃ t, exec (.setRst a) s = .next t ∧ s.endedWith t 0#3 ∧ s.sameRegisters t ∧
    t.trace = s.trace ++ [.line .rst a] ∧ t.seq = s.seq + 1 ∧
    t.bus = { s.bus with rst := a, pulse := s.bus.pulse && !a } ∧ t.oracle = s.oracle ∧ t.timer = s.timer ∧
    (a = false ∨ s.bus.rst = true → t.dev = s.dev) ∧
    (a = true → s.bus.rst = false →
      t.dev.mem = [] ∧ t.dev.epoch = s.dev.draws ∧ t.dev.vb = false ∧ t.dev.ph = .u ∧ t.dev.settings = Settings.unknown ∧
      t.dev.crow = Config.freeRow (s.dev.draws + 1) ∧ t.dev.ccol = Config.freeColumn (s.dev.draws + 1))

/-! ## Word Protocol -/

/-- R62: `SENDCMD` sends any byte as a command under its own chip-select, and leaves `CS = 0`, `CD = 1`, `DIR = OUT`, `DOUT = b`. -/
def Obligations.SendCommandSendsOneByte : Prop :=
  (∀ w : Request, w.extractLsb' 24 8 = 0x10#8 → decodeRequest w = .ok (.sendCmd (w.extractLsb' 0 8))) ∧
  (∀ (b : Byte) (s : State), ∃ t, exec (.sendCmd b) s = .next t ∧ s.endedWith t 0#3 ∧ s.sameRegisters t ∧
    t.trace = s.trace ++ [.line .cs true, .line .cd true, .dir .out, .drive b, .line .wr true, .hold Config.wrPulseMin,
      .line .wr false, .line .cs false] ∧
    (s.bus.rst = false → s.bus.transfers (sendCmdEvents b) = [.write true b]) ∧ t.seq = s.seq + 8 ∧
    t.bus = { s.bus with cs := false, cd := true, dir := .out, dout := b, wr := false, pulse := false } ∧
    t.oracle = s.oracle ∧
    t.dev = if s.bus.rst then s.dev else s.dev.receive (.write true b))

/-- R63: `WRWORD` writes the high byte, then the low byte, as two pulses under one chip-select, and `W <- v`. -/
def Obligations.WriteWordSendsHighByteFirst : Prop :=
  (∀ w : Request, w.extractLsb' 24 8 = 0x11#8 → decodeRequest w = .ok (.wrWord (w.extractLsb' 8 8 ++ w.extractLsb' 0 8))) ∧
  (∀ (v : Word) (s : State), ∃ t, exec (.wrWord v) s = .next t ∧ s.endedWith t 0#3 ∧ s.sameControl t ∧
    t.w = v ∧ t.din = s.din ∧ t.rdata = s.rdata ∧
    t.trace = s.trace ++ [.line .cs true, .line .cd false, .dir .out, .drive (v.extractLsb' 8 8), .line .wr true,
      .hold Config.wrPulseMin, .line .wr false, .dir .out, .drive (v.extractLsb' 0 8), .line .wr true,
      .hold Config.wrPulseMin, .line .wr false, .line .cs false] ∧
    (s.bus.rst = false → s.bus.transfers (wrWordEvents v) = [.write false (v.extractLsb' 8 8), .write false (v.extractLsb' 0 8)]) ∧
    t.seq = s.seq + 13 ∧
    t.bus = { s.bus with cs := false, cd := false, dir := .out, dout := v.extractLsb' 0 8, wr := false, pulse := false } ∧
    t.oracle = s.oracle ∧
    t.dev = if s.bus.rst then s.dev
      else (s.dev.receive (.write false (v.extractLsb' 8 8))).receive (.write false (v.extractLsb' 0 8)))

/-- R64: `RDWORD` discards one byte and assembles the next two, high byte first; R34: for every answer of the environment. -/
def Obligations.ReadWordDiscardsOneByte : Prop :=
  (∀ w : Request, w.extractLsb' 24 8 = 0x12#8 → decodeRequest w = .ok .rdWord) ∧
  (∀ s : State, ∃ t d hi lo, exec .rdWord s = .next t ∧ s.endedWith t 0#3 ∧ s.sameControl t ∧
    t.trace = s.trace ++ [.line .cs true, .line .cd false,
      .dir .inp, .line .rd true, .hold Config.rdPulseMin, .sample d, .line .rd false,
      .dir .inp, .line .rd true, .hold Config.rdPulseMin, .sample hi, .line .rd false,
      .dir .inp, .line .rd true, .hold Config.rdPulseMin, .sample lo, .line .rd false, .line .cs false] ∧
    (s.bus.rst = false → s.bus.transfers (rdWordEvents d hi lo) = [.read false d, .read false hi, .read false lo]) ∧
    t.seq = s.seq + 18 ∧ t.w = hi ++ lo ∧ t.rdata = hi ++ lo ∧ t.din = lo ∧
    t.bus = { s.bus with cs := false, cd := false, rd := false, dir := .inp, pulse := false } ∧
    (∀ a b c bs, s.oracle = .script (a :: b :: c :: bs) → d = a ∧ hi = b ∧ lo = c ∧ t.oracle = .script bs) ∧
    t.dev = Device.follow s.bus (rdWordEvents d hi lo) s.dev)

/-! ## Pixel Addressing & Packing -/

/-- R73, R74: in range, `SETCOL` and `SETROW` write their register and send its two command bytes, low part first. -/
def Obligations.AddressOperationsSendTwoBytes : Prop :=
  (∀ (c : Byte) (s : State), 37 ≤ c.toNat → c.toNat ≤ 90 → ∃ t, exec (.setCol c) s = .next t ∧ s.endedWith t 0#3 ∧
    ({ s with col := c.setWidth 7 } : State).sameRegisters t ∧ t.col.toNat = c.toNat ∧
    s.sentCommands t (columnBytes (c.setWidth 7))) ∧
  (∀ (r : Byte) (s : State), r.toNat ≤ 159 → ∃ t, exec (.setRow r) s = .next t ∧ s.endedWith t 0#3 ∧
    ({ s with row := r } : State).sameRegisters t ∧ s.sentCommands t (rowBytes r))

/-- R73, R74, R75 with R72, R86, R90: out of range, the request ends with `REJECT_RANGE` before any bus traffic, and no other
register changes. -/
def Obligations.OutOfRangeRequestsAreRejected : Prop :=
  ∀ s : State,
    (∀ c : Byte, c.toNat < 37 ∨ 90 < c.toNat → exec (.setCol c) s =
      .next { s with status := 1#3, busy := false, responses := s.responses ++ [responseWord 1#3 s.rdata] }) ∧
    (∀ r : Byte, 159 < r.toNat → exec (.setRow r) s =
      .next { s with status := 1#3, busy := false, responses := s.responses ++ [responseWord 1#3 s.rdata] }) ∧
    (∀ (x y : Byte) (on : Bool), 159 < y.toNat ∨ (if s.mirror.my then 159 < x.toNat else 161 < x.toNat) →
      exec (.drawPixel x y on) s =
        .next { s with status := 1#3, busy := false, responses := s.responses ++ [responseWord 1#3 s.rdata] })

/-- R75 (and R111): an accepted `DRAWPIXEL`: its registers, its 95 events in order, the word written is the word read with one
field forced, whatever the environment answers. -/
def Obligations.DrawPixelReadsModifiesWrites : Prop :=
  ∀ (x y : Byte) (on : Bool) (s : State), y.toNat ≤ 159 → (if s.mirror.my then x.toNat ≤ 159 else x.toNat ≤ 161) →
    ∃ t d hi lo, exec (.drawPixel x y on) s = .next t ∧ s.endedWith t 0#3 ∧
      t.row = y ∧ t.col.toNat = pixelColumn x s.mirror.my ∧ t.pos.toNat = (subPosition x s.mirror.my).val ∧
      t.w = updateWord (hi ++ lo) (subPosition x s.mirror.my) on ∧ t.din = lo ∧
      t.mirror = s.mirror ∧ t.fc = s.fc ∧ t.fr = s.fr ∧ t.op = s.op ∧ t.host = s.host ∧ t.rdata = s.rdata ∧
      t.trace = s.trace ++ drawPixelEvents t.col y (subPosition x s.mirror.my) on d hi lo ∧ t.seq = s.seq + 95 ∧
      t.bus = { s.bus with cs := false, cd := false, rd := false, dir := .out, dout := t.w.extractLsb' 0 8, wr := false, pulse := false } ∧
      (∀ a b c bs, s.oracle = .script (a :: b :: c :: bs) → d = a ∧ hi = b ∧ lo = c ∧ t.oracle = .script bs) ∧
      t.dev = Device.follow s.bus (drawPixelEvents t.col y (subPosition x s.mirror.my) on d hi lo) s.dev

/-- R75 (a): the thirteen transfers of an accepted `DRAWPIXEL`, as the trace of R33 gives them, out of reset. -/
def Obligations.DrawPixelMovesThirteenTransfers : Prop :=
  ∀ (b : Bus) (c : BitVec 7) (r : BitVec 8) (p : Fin 3) (on : Bool) (d hi lo : Byte), b.rst = false →
    b.transfers (drawPixelEvents c r p on d hi lo) = drawPixelTransfers c r p on d hi lo ∧
    (drawPixelTransfers c r p on d hi lo).length = 13 ∧ (drawPixelEvents c r p on d hi lo).length = 95

/-- R76: `FILLSCREEN` writes the 8640 words of the window, columns outermost and ascending, rows innermost and ascending, and
ends with `COL = 90`, `ROW = 159`. -/
def Obligations.FillScreenWritesEveryWord : Prop :=
  ∀ (on : Bool) (s : State), ∃ t, exec (.fillScreen on) s = .next t ∧ s.endedWith t 0#3 ∧
    t.w = (if on then 0xFFFF#16 else 0#16) ∧ t.col = 90#7 ∧ t.row = 159#8 ∧
    t.mirror = s.mirror ∧ t.pos = s.pos ∧ t.din = s.din ∧ t.rdata = s.rdata ∧ t.op = s.op ∧ t.host = s.host ∧
    t.oracle = s.oracle ∧
    t.trace = s.trace ++ fillEvents t.w ∧ fillOrder.length = 8640 ∧
    t.bus = { s.bus with cs := false, cd := false, dir := .out, dout := if on then 0xFF#8 else 0#8, wr := false, pulse := false } ∧
    t.dev = if s.bus.rst then s.dev else s.dev.run (fillOrder.flatMap (fillWordTransfers t.w))

/-- R77: `DRAWTRIPLET` writes the packed word where the device's cursor stands; it does not address and reads neither the
device nor `MIRROR`. -/
def Obligations.DrawTripletWritesThePackedWord : Prop :=
  (∀ w : Request, w.extractLsb' 24 8 = 0x24#8 → decodeRequest w = .ok (.drawTriplet (w.getLsbD 2) (w.getLsbD 1) (w.getLsbD 0))) ∧
  (∀ (p1 p2 p3 : Bool) (s : State), ∃ t, exec (.drawTriplet p1 p2 p3) s = .next t ∧ s.endedWith t 0#3 ∧ s.sameControl t ∧
    t.w = packWord p1 p2 p3 ∧ t.din = s.din ∧ t.rdata = s.rdata ∧
    t.trace = s.trace ++ wrWordEvents (packWord p1 p2 p3) ∧ t.seq = s.seq + 13 ∧
    t.bus = { s.bus with cs := false, cd := false, dir := .out, dout := lowByte (packWord p1 p2 p3), wr := false, pulse := false } ∧
    t.oracle = s.oracle ∧
    t.dev = if s.bus.rst then s.dev else s.dev.run (wordTransfers (packWord p1 p2 p3)))

/-! ## Controller commands -/

/-- R79: `SETVBIAS` sends `0x81` and the raw value as a second command; R51: a ready device takes that byte as no command, whatever
it is. The setting it leaves is the model's record (notes 16). -/
def Obligations.SetVbiasSendsTheRawValue : Prop :=
  (∀ w : Request, w.extractLsb' 24 8 = 0x30#8 → decodeRequest w = .ok (.setVbias (w.extractLsb' 0 8))) ∧
  (∀ (v : Byte) (s : State), ∃ t, exec (.setVbias v) s = .next t ∧ s.endedWith t 0#3 ∧ s.sameRegisters t ∧
    s.sentCommands t [0x81#8, v] ∧
    (s.deviceReady → s.dev.sameRam t.dev ∧ t.dev.crow = s.dev.crow ∧ t.dev.ccol = s.dev.ccol ∧ t.dev.vb = false ∧
      t.dev.ph = .a0 ∧ t.dev.settings = { s.dev.settings with vbias := some v }))

/-- R80, R81, R83, R84: the one-byte commands; the device's RAM and cursor are as before (R36). -/
def Obligations.OneByteCommandsSendTheirByte : Prop :=
  ∀ (a : Bool) (s : State),
    (∃ t, exec (.setInv a) s = .next t ∧ s.endedWith t 0#3 ∧ s.sameRegisters t ∧
      s.sentCommands t [if a then 0xA7#8 else 0xA6#8] ∧
      (s.deviceReady → s.dev.sameRam t.dev ∧ t.dev.crow = s.dev.crow ∧ t.dev.ccol = s.dev.ccol)) ∧
    (∃ t, exec (.setDispEn a) s = .next t ∧ s.endedWith t 0#3 ∧ s.sameRegisters t ∧
      s.sentCommands t [if a then 0xAD#8 else 0xAC#8] ∧
      (s.deviceReady → s.dev.sameRam t.dev ∧ t.dev.crow = s.dev.crow ∧ t.dev.ccol = s.dev.ccol)) ∧
    (∃ t, exec .setColorPat s = .next t ∧ s.endedWith t 0#3 ∧ s.sameRegisters t ∧ s.sentCommands t [0xD1#8] ∧
      (s.deviceReady → s.dev.sameRam t.dev ∧ t.dev.crow = s.dev.crow ∧ t.dev.ccol = s.dev.ccol)) ∧
    (∃ t, exec .setColorMode s = .next t ∧ s.endedWith t 0#3 ∧ s.sameRegisters t ∧ s.sentCommands t [0xD4#8] ∧
      (s.deviceReady → s.dev.sameRam t.dev ∧ t.dev.crow = s.dev.crow ∧ t.dev.ccol = s.dev.ccol))

/-- R82: `SETMAP` sends one of the four mapping bytes and then writes `MIRROR`. -/
def Obligations.SetMapSendsAndStoresTheMode : Prop :=
  ∀ (mx my : Bool) (s : State), ∃ t, exec (.setMap mx my) s = .next t ∧ s.endedWith t 0#3 ∧
    ({ s with mirror := { mx := mx, my := my } } : State).sameRegisters t ∧
    s.sentCommands t [match mx, my with
      | false, false => 0xC0#8
      | false, true => 0xC2#8
      | true, false => 0xC4#8
      | true, true => 0xC6#8] ∧
    (s.deviceReady → s.dev.sameRam t.dev ∧ t.dev.crow = s.dev.crow ∧ t.dev.ccol = s.dev.ccol ∧ t.dev.ph = .a0)

/-- R85: `SYSRESET` sends `0xE2` and holds for the settle delay; `MIRROR` is kept; a ready device forgets RAM and cursor (R36). -/
def Obligations.SysResetSendsAndSettles : Prop :=
  (∀ w : Request, w.extractLsb' 24 8 = 0x36#8 → decodeRequest w = .ok .sysReset) ∧
  (∀ s : State, ∃ t, exec .sysReset s = .next t ∧ s.endedWith t 0#3 ∧ s.sameRegisters t ∧
    t.trace = s.trace ++ [.line .cs true, .line .cd true, .dir .out, .drive 0xE2#8, .line .wr true,
      .hold Config.wrPulseMin, .line .wr false, .line .cs false, .hold Config.sysresetSettleMin] ∧ t.seq = s.seq + 9 ∧
    t.bus = { s.bus with cs := false, cd := true, dir := .out, dout := 0xE2#8, wr := false, pulse := false } ∧
    t.oracle = s.oracle ∧
    (s.bus.rst = true → t.dev = s.dev) ∧
    (s.deviceReady → t.dev.mem = [] ∧ t.dev.epoch = s.dev.draws ∧ t.dev.ph = .a0 ∧
      t.dev.crow = Config.freeRow (s.dev.draws + 1) ∧ t.dev.ccol = Config.freeColumn (s.dev.draws + 1)))

/-! ## Command bytes -/

/-- R46 and R36: the four address command bytes, sent to a ready device, each set their part of the cursor and advance the
address sequence; the block's registers are kept (R52). The reading of the table's CMD8 rows is the model's (notes 15). -/
def Obligations.AddressBytesSetTheCursor : Prop :=
  ∀ s : State,
    (∀ n : BitVec 4, ∃ t, exec (.cmdColLow n) s = .next t ∧ s.endedWith t 0#3 ∧ s.sameRegisters t ∧
      s.sentCommands t [0x00#8 ||| n.setWidth 8] ∧ (s.deviceReady → t.dev = { s.dev with colLo := n, ph := .a1 })) ∧
    (∀ n : BitVec 3, ∃ t, exec (.cmdColHigh n) s = .next t ∧ s.endedWith t 0#3 ∧ s.sameRegisters t ∧
      s.sentCommands t [0x10#8 ||| n.setWidth 8] ∧
      (s.deviceReady → t.dev = { s.dev with colHi := n, ph := if s.dev.ph = .a1 then .a2 else .a0 })) ∧
    (∀ n : BitVec 4, ∃ t, exec (.cmdRowLow n) s = .next t ∧ s.endedWith t 0#3 ∧ s.sameRegisters t ∧
      s.sentCommands t [0x60#8 ||| n.setWidth 8] ∧
      (s.deviceReady → t.dev = { s.dev with rowLo := n, ph := if s.dev.ph = .a2 then .a3 else .a0 })) ∧
    (∀ n : BitVec 4, ∃ t, exec (.cmdRowHigh n) s = .next t ∧ s.endedWith t 0#3 ∧ s.sameRegisters t ∧
      s.sentCommands t [0x70#8 ||| n.setWidth 8] ∧
      (s.deviceReady → t.dev = { s.dev with rowHi := n, ph := if s.dev.ph = .a3 then .a4 else .a0 }))

/-- R46 and R36: the other command bytes, sent to a ready device. `0x81` arms the value byte, `0xE2` makes the device forget, the
rest change neither RAM nor cursor; the settings are the model's record (notes 16), the reading of the rows notes 15. -/
def Obligations.OtherCommandBytesReachTheDevice : Prop :=
  ∀ (a b : Bool) (s : State),
    (∃ t, exec .cmdVbias s = .next t ∧ s.endedWith t 0#3 ∧ s.sameRegisters t ∧ s.sentCommands t [0x81#8] ∧
      (s.deviceReady → t.dev = { s.dev with vb := true, ph := .a0 })) ∧
    (∃ t, exec (.cmdInverse a) s = .next t ∧ s.endedWith t 0#3 ∧ s.sameRegisters t ∧
      s.sentCommands t [if a then 0xA7#8 else 0xA6#8] ∧
      (s.deviceReady → t.dev = { s.dev with settings := { s.dev.settings with inverse := some a }, ph := .a0 })) ∧
    (∃ t, exec (.cmdDispen a) s = .next t ∧ s.endedWith t 0#3 ∧ s.sameRegisters t ∧
      s.sentCommands t [if a then 0xAD#8 else 0xAC#8] ∧
      (s.deviceReady → t.dev = { s.dev with settings := { s.dev.settings with sleep := some a }, ph := .a0 })) ∧
    (∃ t, exec (.cmdMapping a b) s = .next t ∧ s.endedWith t 0#3 ∧ s.sameRegisters t ∧
      s.sentCommands t [0xC0#8 ||| (if a then 4#8 else 0#8) ||| (if b then 2#8 else 0#8)] ∧
      (s.deviceReady →
        t.dev = { s.dev with settings := { s.dev.settings with mapping := some { mx := a, my := b } }, ph := .a0 })) ∧
    (∃ t, exec .cmdColorPat s = .next t ∧ s.endedWith t 0#3 ∧ s.sameRegisters t ∧ s.sentCommands t [0xD1#8] ∧
      (s.deviceReady → t.dev = { s.dev with settings := { s.dev.settings with colorPattern := true }, ph := .a0 })) ∧
    (∃ t, exec .cmdColorMode s = .next t ∧ s.endedWith t 0#3 ∧ s.sameRegisters t ∧ s.sentCommands t [0xD4#8] ∧
      (s.deviceReady → t.dev = { s.dev with settings := { s.dev.settings with colorMode := true }, ph := .a0 })) ∧
    (∃ t, exec .cmdSysReset s = .next t ∧ s.endedWith t 0#3 ∧ s.sameRegisters t ∧ s.sentCommands t [0xE2#8] ∧
      (s.deviceReady → t.dev.mem = [] ∧ t.dev.epoch = s.dev.draws ∧ t.dev.ph = .a0 ∧ t.dev.vb = false))

/-- R52: a `SENDCMD` whose byte matches a row of R46 has the bus effect of that command and none of a named operation's
effects on `MIRROR`, `COL`, `ROW`; beside `SETMAP`, which differs from its byte sent with `SENDCMD` in `MIRROR` alone. -/
def Obligations.SendCommandIsOpaqueToTheBlock : Prop :=
  ∀ (c : Command) (s : State), exec (.sendCmd (encodeCommand c)) s = exec c.toInstr s ∧
    (∃ t, exec (.sendCmd (encodeCommand c)) s = .next t ∧ t.mirror = s.mirror ∧ t.col = s.col ∧ t.row = s.row) ∧
    (∀ mx my, ∃ t u, exec (.sendCmd (encodeCommand (.mapping mx my))) s = .next t ∧ exec (.setMap mx my) s = .next u ∧
      t.mirror = s.mirror ∧ u = { t with mirror := { mx := mx, my := my } })

/-- R54: the normative expansions give the same trace, lines and device as the operation, out of whatever state. -/
def Obligations.ExpansionsGiveTheSameTrace : Prop :=
  ∀ (s : State) (i : Instr) (is : List Instr),
    (∃ b, i = .sendCmd b ∧ is = [.selChip true, .selCmd true, .wrb b, .selChip false]) ∨
    (∃ v, i = .wrWord v ∧ is = [.selChip true, .selCmd false, .wrb (highByte v), .wrb (lowByte v), .selChip false]) ∨
    (i = .rdWord ∧ is = [.selChip true, .selCmd false, .rdb, .rdb, .rdb, .selChip false]) ∨
    (∃ c : Byte, i = .setCol c ∧ inRangeColumn c.toNat = true ∧ is = (columnBytes (c.setWidth 7)).map .sendCmd) ∨
    (∃ r : Byte, i = .setRow r ∧ inRangeRow r.toNat = true ∧ is = (rowBytes r).map .sendCmd) ∨
    (∃ p1 p2 p3, i = .drawTriplet p1 p2 p3 ∧ is = [.wrWord (packWord p1 p2 p3)]) ∨
    (∃ v, i = .setVbias v ∧ is = [.sendCmd 0x81#8, .sendCmd v]) ∨
    (∃ e, i = .setInv e ∧ is = [.sendCmd (if e then 0xA7#8 else 0xA6#8)]) ∨
    (∃ e, i = .setDispEn e ∧ is = [.sendCmd (if e then 0xAD#8 else 0xAC#8)]) ∨
    (∃ mx my, i = .setMap mx my ∧ is = [.sendCmd (encodeCommand (.mapping mx my))]) ∨
    (i = .setColorPat ∧ is = [.sendCmd 0xD1#8]) ∨ (i = .setColorMode ∧ is = [.sendCmd 0xD4#8]) →
    ∃ t u, exec i s = .next t ∧ runAll is s = some u ∧ t.trace = u.trace ∧ t.bus = u.bus ∧ t.dev = u.dev ∧ t.din = u.din

/-! ## The device model -/

/-- R37: a data write after a full address or a completed word begins a word; the second byte stores it where the cursor
stands and moves the cursor on; out of the window or out of discipline all of RAM is forgotten. The
field `access` is the model's record beside the rule's state (notes 27) and is left open here. -/
def Obligations.DataWritesFollowThePhase : Prop :=
  ∀ (d : Device) (b : Byte),
    ((d.ph = .a4 ∨ d.ph = .n) → ∃ a, d.receive (.write false b) = { d with ph := .w1 b, access := a }) ∧
    (∀ h e, d.ph = .w1 h → e = d.receive (.write false b) →
      e.ph = .n ∧ e.crow = d.crow ∧ e.ccol = d.ccol + 1 ∧ e.vb = d.vb ∧
      (d.inWindow = true → e.word d.crow.toNat d.ccol.toNat = h ++ b ∧ d.sameRamBut e d.crow.toNat d.ccol.toNat) ∧
      (d.inWindow = false → e.mem = [] ∧ e.epoch = d.draws)) ∧
    (d.ph ∈ [.a0, .a1, .a2, .a3, .r1, .r2, .u] → ∀ e, e = d.receive (.write false b) →
      e.mem = [] ∧ e.epoch = d.draws ∧ e.ph = .u ∧ e.crow = d.crow ∧ e.ccol = d.ccol ∧ e.vb = d.vb)

/-- R38: a read after a full address gives any byte, then the word's two bytes; any other data read gives any byte and is out
of discipline; a read leaves RAM as it was unless it loses a half-written word. A command-mode read in phase W1 keeps RAM, the
model's reading of R38 (notes 24). -/
def Obligations.DataReadsFollowThePhase : Prop :=
  ∀ (d : Device) (v : Byte),
    (d.ph = .a4 → d.readValue false = none ∧ d.receive (.read false v) = { d with ph := .r1 }) ∧
    (d.ph = .r1 → (d.inWindow = true → d.readValue false = some (highByte (d.word d.crow.toNat d.ccol.toNat))) ∧
      (d.inWindow = false → d.readValue false = none) ∧ d.receive (.read false v) = { d with ph := .r2 }) ∧
    (d.ph = .r2 → (d.inWindow = true → d.readValue false = some (lowByte (d.word d.crow.toNat d.ccol.toNat))) ∧
      (d.inWindow = false → d.readValue false = none) ∧ (d.receive (.read false v)).ph = .n ∧
      (d.receive (.read false v)).crow = d.crow ∧ (d.receive (.read false v)).ccol = d.ccol + 1 ∧
      (d.receive (.read false v)).vb = d.vb ∧ d.sameRam (d.receive (.read false v))) ∧
    (d.ph ∈ [.a0, .a1, .a2, .a3, .n, .u] → d.readValue false = none ∧
      d.receive (.read false v) = { d with ph := .u }) ∧
    (∀ h e, d.ph = .w1 h → e = d.receive (.read false v) →
      d.readValue false = none ∧ e.ph = .u ∧ e.crow = d.crow ∧ e.ccol = d.ccol ∧ e.vb = d.vb ∧
      (d.inWindow = true → e.word d.crow.toNat d.ccol.toNat = Config.lostByte d.draws ++ Config.lostByte (d.draws + 1) ∧
        d.sameRamBut e d.crow.toNat d.ccol.toNat) ∧
      (d.inWindow = false → d.sameRam e)) ∧
    d.readValue true = none ∧ d.receive (.read true v) = { d with ph := .u }

/-- R36: a command write. First a half-written word is lost, which gives the device `m`; then the byte is the VBias value, or
acts by its class, and the phase follows; `0xE2` and a byte outside the table make the device forget RAM and cursor. The settings are the
model's own record (notes 16) and are left open here. -/
def Obligations.CommandWritesFollowTheTable : Prop :=
  ∀ (d : Device) (b : Byte), ∃ m e : Device, e = d.receive (.write true b) ∧
    m.crow = d.crow ∧ m.ccol = d.ccol ∧ m.vb = d.vb ∧ m.ph = d.ph ∧
    (d.ph.whole → m = d) ∧
    (∀ h, d.ph = .w1 h → d.inWindow = false → m = d) ∧
    (∀ h, d.ph = .w1 h → d.inWindow = true →
      m.word d.crow.toNat d.ccol.toNat = Config.lostByte d.draws ++ Config.lostByte (d.draws + 1) ∧
      d.sameRamBut m d.crow.toNat d.ccol.toNat) ∧
    (d.vb = true → e = { m with vb := false, settings := e.settings, ph := .a0 }) ∧
    (d.vb = false →
      (b.toNat ≤ 0x0F → e = { m with colLo := b.extractLsb' 0 4, ph := .a1 }) ∧
      (0x10 ≤ b.toNat → b.toNat ≤ 0x17 →
        e = { m with colHi := b.extractLsb' 0 3, ph := if d.ph = .a1 then .a2 else .a0 }) ∧
      (0x60 ≤ b.toNat → b.toNat ≤ 0x6F →
        e = { m with rowLo := b.extractLsb' 0 4, ph := if d.ph = .a2 then .a3 else .a0 }) ∧
      (0x70 ≤ b.toNat → b.toNat ≤ 0x7F →
        e = { m with rowHi := b.extractLsb' 0 4, ph := if d.ph = .a3 then .a4 else .a0 }) ∧
      (b = 0x81#8 → e = { m with vb := true, ph := .a0 }) ∧
      (b ∈ [0xA6#8, 0xA7#8, 0xAC#8, 0xAD#8, 0xC0#8, 0xC2#8, 0xC4#8, 0xC6#8, 0xD1#8, 0xD4#8] →
        e = { m with settings := e.settings, ph := .a0 }) ∧
      (b = 0xE2#8 ∨ WellFormed.listedCommand b = false →
        e.mem = [] ∧ e.epoch = m.draws ∧ e.crow = Config.freeRow (m.draws + 1) ∧
        e.ccol = Config.freeColumn (m.draws + 1) ∧ e.vb = false ∧ e.ph = .a0))

/-- R40 (a), (b), (c): an addressed write stores its word and no other; an addressed read of it gives its bytes and changes none;
from a device that takes commands and has no half-written word pending (notes 18). -/
def Obligations.AddressedAccessRoundTrip : Prop :=
  ∀ (d : Device) (r c : Nat) (h l : Byte), d.vb = false → d.ph.whole → Memory.inWindow r c = true →
    let addr := commandTransfers (addressBytes (BitVec.ofNat 7 c) (BitVec.ofNat 8 r))
    let e := d.run (addr ++ [.write false h, .write false l])
    e.word r c = h ++ l ∧ d.sameRamBut e r c ∧ e.cursorAt r (c + 1) ∧ e.ph = .n ∧ e.vb = false ∧
    ∀ x y z : Byte,
      (e.run addr).readValue false = none ∧
      (e.run (addr ++ [.read false x])).readValue false = some h ∧
      (e.run (addr ++ [.read false x, .read false y])).readValue false = some l ∧
      e.sameRam (e.run (addr ++ [.read false x, .read false y, .read false z])) ∧
      (e.run (addr ++ [.read false x, .read false y, .read false z])).cursorAt r (c + 1)

/-- R40 (d): words written after one address sequence land in successive columns of the row, and nowhere else. -/
def Obligations.WordsAfterOneAddressAdvance : Prop :=
  ∀ (d : Device) (r c : Nat) (ws : List Word), d.vb = false → d.ph.whole → r ≤ 159 → 37 ≤ c → c + ws.length ≤ 91 →
    let e := d.run (commandTransfers (addressBytes (BitVec.ofNat 7 c) (BitVec.ofNat 8 r)) ++ ws.flatMap wordTransfers)
    (∀ k (hk : k < ws.length), e.word r (c + k) = ws[k]) ∧
    (∀ a, (∀ k, k < ws.length → a ≠ Memory.wordAddr r (c + k) ∧ a ≠ Memory.wordAddr r (c + k) + 1) →
      e.byteAt a = d.byteAt a) ∧
    e.cursorAt r (c + ws.length)

/-- R28, R37: `WRWORD` and `DRAWTRIPLET` store at the device's cursor, right after an address or a completed word, and move the
cursor on; every other byte of RAM reads as before. R116: right after an address the word is then known (the record is the model's,
notes 27). -/
def Obligations.WordsAreStoredAtTheCursor : Prop :=
  ∀ s : State, s.bus.rst = false → (s.dev.ph = .a4 ∨ s.dev.ph = .n) → s.dev.inWindow = true →
    (∀ v, ∃ t, exec (.wrWord v) s = .next t ∧ t.dev.word s.dev.crow.toNat s.dev.ccol.toNat = v ∧
      (s.dev.ph = .a4 → t.ramKnown s.dev.crow.toNat s.dev.ccol.toNat) ∧
      s.dev.sameRamBut t.dev s.dev.crow.toNat s.dev.ccol.toNat ∧ t.dev.crow = s.dev.crow ∧
      t.dev.ccol = s.dev.ccol + 1 ∧ t.dev.ph = .n) ∧
    (∀ p1 p2 p3, ∃ t, exec (.drawTriplet p1 p2 p3) s = .next t ∧
      t.dev.word s.dev.crow.toNat s.dev.ccol.toNat = packWord p1 p2 p3 ∧
      (s.dev.ph = .a4 → t.ramKnown s.dev.crow.toNat s.dev.ccol.toNat) ∧
      s.dev.sameRamBut t.dev s.dev.crow.toNat s.dev.ccol.toNat ∧ t.dev.crow = s.dev.crow ∧
      t.dev.ccol = s.dev.ccol + 1 ∧ t.dev.ph = .n)

/-- R64 under the device model: right after an address, `RDWORD` returns the word at the cursor, leaves RAM as it was and moves
the cursor on (R28, R38, R40 (b)). -/
def Obligations.ReadWordReadsAtTheCursor : Prop :=
  ∀ s : State, s.bus.rst = false → s.dev.ph = .a4 → s.dev.inWindow = true → s.oracle = .device →
    ∃ t, exec .rdWord s = .next t ∧ t.rdata = s.dev.word s.dev.crow.toNat s.dev.ccol.toNat ∧ t.w = t.rdata ∧
      s.dev.sameRam t.dev ∧ t.dev.crow = s.dev.crow ∧ t.dev.ccol = s.dev.ccol + 1 ∧ t.dev.ph = .n

/-- R75 (h): under the device model, from a ready device, an accepted `DRAWPIXEL` changes its word to the updated word and
changes no other. -/
def Obligations.DrawPixelChangesOneField : Prop :=
  ∀ (x y : Byte) (on : Bool) (s : State), y.toNat ≤ 159 → (if s.mirror.my then x.toNat ≤ 159 else x.toNat ≤ 161) →
    s.deviceReady → s.oracle = .device →
    ∃ t, exec (.drawPixel x y on) s = .next t ∧
      t.dev.word y.toNat (pixelColumn x s.mirror.my) =
        updateWord (s.dev.word y.toNat (pixelColumn x s.mirror.my)) (subPosition x s.mirror.my) on ∧
      s.dev.sameRamBut t.dev y.toNat (pixelColumn x s.mirror.my) ∧
      t.dev.cursorAt y.toNat (pixelColumn x s.mirror.my + 1) ∧ t.deviceReady

/-- R75 (h), S7: done twice, `DRAWPIXEL` leaves the same RAM as done once. -/
def Obligations.DrawPixelIsIdempotent : Prop :=
  ∀ (x y : Byte) (on : Bool) (s : State), y.toNat ≤ 159 → (if s.mirror.my then x.toNat ≤ 159 else x.toNat ≤ 161) →
    s.deviceReady → s.oracle = .device →
    ∃ t u, exec (.drawPixel x y on) s = .next t ∧ exec (.drawPixel x y on) t = .next u ∧
      t.dev.sameRam u.dev ∧ u.dev.mem = t.dev.mem ∧ u.w = t.w

/-- R76 (f), S8: under the device model, out of reset and not waiting for a VBias value, `FILLSCREEN` makes every word of the
window the fill word, whatever was there before. -/
def Obligations.FillScreenFillsTheWindow : Prop :=
  ∀ (on : Bool) (s : State), s.bus.rst = false → s.dev.vb = false →
    ∃ t, exec (.fillScreen on) s = .next t ∧
      (∀ r c, Memory.inWindow r c = true → t.dev.word r c = if on then 0xFFFF#16 else 0#16) ∧
      t.dev.cursorAt 159 91 ∧ t.dev.ph = .n

/-! ## The whole machine -/

/-- The invariant: strobes exclusive and in order at every moment of the trace, none asserted between steps (R12), registers
legal (R15 to R17), RAM canonical. Every step keeps it. -/
def Obligations.StepKeepsTheInvariant : Prop :=
  ∀ s t : State, s.Inv → step s = .next t → t.Inv

/-- The state after reset meets the invariant (the values where R20 says unspecified are the model's: notes 4). -/
def Obligations.ResetMeetsTheInvariant : Prop := State.reset.Inv

/-- R20, R97: what reset leaves, where the spec gives a value; and nothing runs by itself after reset. -/
def Obligations.ResetLeavesTheBlockIdle : Prop :=
  State.reset.bus.cs = false ∧ State.reset.bus.cd = false ∧ State.reset.bus.rd = false ∧ State.reset.bus.wr = false ∧
  State.reset.bus.rst = false ∧ State.reset.bus.dir = .out ∧ State.reset.mirror = { mx := false, my := false } ∧
  State.reset.busy = false ∧ State.reset.trace = [] ∧ step State.reset = .next State.reset

/-- R12 (c): only `SELCHIP 1` leaves chip-select asserted; every composite operation that is not rejected leaves `CS = 0`. -/
def Obligations.ChipSelectIsReleased : Prop :=
  ∀ (i : Instr) (s t : State), exec i s = .next t →
    (i ≠ .selChip true → s.bus.cs = false → t.bus.cs = false) ∧
    (t.status = 0#3 → (∀ a, i ≠ .selChip a) → (∀ a, i ≠ .selCmd a) → (∀ a, i ≠ .setRst a) → (∀ a, i ≠ .setDir a) →
      (∀ v, i ≠ .wrb v) → i ≠ .rdb → t.bus.cs = false)

/-- R14: `SETMAP` is the only writer of `MIRROR`; R17: `RDB` and `RDWORD` are the only writers of `RDATA`; R16: no operation
writes `OP`. The last clause, that no operation writes the record of accepted requests, is about the model's own field
(notes 14). -/
def Obligations.ControlRegistersHaveOneWriter : Prop :=
  ∀ (i : Instr) (s t : State), exec i s = .next t →
    ((∀ mx my, i ≠ .setMap mx my) → t.mirror = s.mirror) ∧
    (i ≠ .rdb → i ≠ .rdWord → t.rdata = s.rdata) ∧ t.op = s.op ∧ t.accepted = s.accepted

/-- R86 and R89: which requests are rejected, with which code, and when; every other accepted request ends with `OK`. R90: a
reject changes `STATUS` and `BUSY` and gives its response, and nothing else. -/
def Obligations.OnlyTheseRequestsAreRejected : Prop :=
  ∀ s : State, s.busy = true → ∃ t, step s = .next t ∧ t.status.toNat ≤ 3 ∧
    (t.status = 2#3 ↔ opcField s.op ∉ operationCodes) ∧
    (t.status = 1#3 ↔
      (∃ x y on, decodeRequest s.op = .ok (.drawPixel x y on) ∧
        (159 < y.toNat ∨ pixelColumn x s.mirror.my < 37 ∨ 90 < pixelColumn x s.mirror.my)) ∨
      (∃ c, decodeRequest s.op = .ok (.setCol c) ∧ (c.toNat < 37 ∨ 90 < c.toNat)) ∨
      (∃ r, decodeRequest s.op = .ok (.setRow r) ∧ 159 < r.toNat)) ∧
    (t.status = 3#3 ↔ ∃ o, decodeRequest s.op = .ok (.setDir o) ∧ s.bus.cs = true ∧
      s.bus.dir ≠ if o then Dir.out else Dir.inp) ∧
    (t.status ≠ 0#3 →
      t = { s with status := t.status, busy := false, responses := s.responses ++ [responseWord t.status s.rdata] })

/-- R22, R30: an operation only appends to the trace, its lines are what its events make them, and the device knows of it
by those events alone. -/
def Obligations.DeviceSeesOnlyTheEvents : Prop :=
  ∀ (i : Instr) (s t : State), exec i s = .next t →
    ∃ es, t.trace = s.trace ++ es ∧ t.bus = s.bus.run es ∧ t.dev = Device.follow s.bus es s.dev

/-- R14: `MX` affects nothing but `MIRROR.MX` itself: two states that differ in `MX` only go to states that differ in `MX` at
most. -/
def Obligations.MirrorXAffectsNothing : Prop :=
  ∀ (i : Instr) (s : State) (b : Bool), ∃ t u, exec i s = .next t ∧
    exec i { s with mirror := { mx := b, my := s.mirror.my } } = .next u ∧
    u = { t with mirror := u.mirror } ∧ u.mirror.my = t.mirror.my

/-- R15: no operation reads a working register that an earlier operation wrote: states that differ in `ROW`, `COL`, `POS`, `W`,
`DIN` only go to states that differ in these at most. -/
def Obligations.WorkingRegistersAreTemporaries : Prop :=
  ∀ (i : Instr) (s : State) (row : BitVec 8) (col : BitVec 7) (pos : BitVec 2) (w : Word) (din : Byte), ∃ t u,
    exec i s = .next t ∧ exec i { s with row := row, col := col, pos := pos, w := w, din := din } = .next u ∧
    u = { t with row := u.row, col := u.col, pos := u.pos, w := u.w, din := u.din }

/-- R34, R87: the block consults nothing of the device but the bytes it samples: given the same bytes, two devices are served
alike. -/
def Obligations.BlockConsultsOnlySampledBytes : Prop :=
  ∀ (i : Instr) (s : State) (d : Device) (a b c : Byte) (bs : List Byte), s.oracle = .script (a :: b :: c :: bs) →
    ∃ t u, exec i s = .next t ∧ exec i { s with dev := d } = .next u ∧ u = { t with dev := u.dev }

/-- R113: events, write transfers, read transfers and the least strobe time of each operation, from a quiet bus out of reset. -/
def Obligations.EventAndTransferCounts : Prop :=
  ∀ (s : State) (i : Instr) (t : State), s.bus.quiet → s.bus.rst = false → exec i s = .next t →
    let w := Config.wrPulseMin
    let r := Config.rdPulseMin
    (t.status ≠ 0#3 → s.counts t 0 0 0 0) ∧
    (t.status = 0#3 →
      match i with
      | .setDir _ | .selChip _ | .selCmd _ | .setRst _ => s.counts t 1 0 0 0
      | .wrb _ => s.counts t 5 (if s.bus.cs then 1 else 0) 0 w
      | .rdb => s.counts t 5 0 (if s.bus.cs then 1 else 0) r
      | .sendCmd _ | .setInv _ | .setDispEn _ | .setMap _ _ | .setColorPat | .setColorMode => s.counts t 8 1 0 w
      | .cmdColLow _ | .cmdColHigh _ | .cmdRowLow _ | .cmdRowHigh _ | .cmdVbias | .cmdInverse _ | .cmdDispen _
      | .cmdMapping _ _ | .cmdColorPat | .cmdColorMode | .cmdSysReset => s.counts t 8 1 0 w
      | .sysReset => s.counts t 9 1 0 w
      | .setVbias _ | .setCol _ | .setRow _ => s.counts t 16 2 0 (2 * w)
      | .wrWord _ | .drawTriplet _ _ _ => s.counts t 13 2 0 (2 * w)
      | .rdWord => s.counts t 18 0 3 (3 * r)
      | .drawPixel _ _ _ => s.counts t 95 10 3 (10 * w + 3 * r)
      | .fillScreen _ => s.counts t 388800 51840 0 (51840 * w))

/-- R99, R107: a `SETMAP` that reaches a ready device makes block and device agree; `SYSRESET` and the reset line make the device's
setting unknown and keep `MIRROR`; a mapping byte sent with `SENDCMD` changes the device only (notes 16). -/
def Obligations.MirrorAgreementIsMadeAndLost : Prop :=
  ∀ s : State, s.deviceReady →
    (∀ mx my, ∃ t, exec (.setMap mx my) s = .next t ∧ t.mirrorAgrees) ∧
    (∃ t, exec .sysReset s = .next t ∧ t.mirror = s.mirror ∧ ¬t.mirrorAgrees) ∧
    (∃ t, exec (.setRst true) s = .next t ∧ t.mirror = s.mirror ∧ ¬t.mirrorAgrees) ∧
    (∀ mx my, ∃ t, exec (.sendCmd (encodeCommand (.mapping mx my))) s = .next t ∧ t.mirror = s.mirror ∧
      (t.mirrorAgrees ↔ s.mirror = { mx := mx, my := my }))
end

