-- ==== Sys2Proof/Laws/Memory.lean ====
section
/-! SUPPORT. Display RAM: a read after a write, and that every memory operation keeps the canonical form. -/

namespace Sys2Proof.Machine

@[simp] theorem Memory.read_write_same (m : Memory) (a : Nat) (b : Byte) : (m.write a b).read a = some b := by
  induction m with
  | nil => simp [Memory.write, Memory.read]
  | cons x m ih =>
    obtain ⟨k, v⟩ := x
    unfold Memory.write
    split
    · simp [Memory.read]
    · split
      · simp [Memory.read]
      · next h => simp [Memory.read, ih, Ne.symm h]

theorem Memory.read_write_other (m : Memory) {a k : Nat} (b : Byte) (h : a ≠ k) :
    (m.write k b).read a = m.read a := by
  induction m with
  | nil => simp [Memory.write, Memory.read, Ne.symm h]
  | cons x m ih =>
    obtain ⟨j, v⟩ := x
    unfold Memory.write
    split
    · simp [Memory.read, Ne.symm h]
    · split
      · next hk => subst hk; simp [Memory.read, Ne.symm h]
      · simp [Memory.read, ih]

/-- What a list of cells holds after a write: the cell written, and cells that were there. -/
theorem Memory.mem_write {m : Memory} {a : Nat} {b : Byte} {x : Host.Cell} (h : x ∈ m.write a b) :
    x = (a, b) ∨ x ∈ m := by
  induction m with
  | nil => simpa [Memory.write] using h
  | cons y m ih =>
    obtain ⟨k, v⟩ := y
    unfold Memory.write at h
    split at h
    · simpa using h
    · split at h
      · rcases List.mem_cons.mp h with h | h
        · exact .inl h
        · exact .inr (List.mem_cons_of_mem _ h)
      · rcases List.mem_cons.mp h with h | h
        · exact .inr (h ▸ List.mem_cons_self)
        · rcases ih h with h | h
          · exact .inl h
          · exact .inr (List.mem_cons_of_mem _ h)

theorem Memory.write_sorted {m : Memory} (a : Nat) (b : Byte) (h : m.Pairwise (fun x y => x.1 < y.1)) :
    (m.write a b).Pairwise (fun x y => x.1 < y.1) := by
  induction m with
  | nil => simp [Memory.write]
  | cons y m ih =>
    obtain ⟨k, v⟩ := y
    have hm := (List.pairwise_cons.mp h).2
    have hk := (List.pairwise_cons.mp h).1
    unfold Memory.write
    split
    · next ha =>
      refine List.pairwise_cons.mpr ⟨?_, h⟩
      intro x hx
      rcases List.mem_cons.mp hx with hx | hx
      · subst hx; exact ha
      · exact Nat.lt_trans ha (hk x hx)
    · split
      · next ha => subst ha; exact List.pairwise_cons.mpr ⟨hk, hm⟩
      · next h1 h2 =>
        refine List.pairwise_cons.mpr ⟨?_, ih hm⟩
        intro x hx
        rcases Memory.mem_write hx with hx | hx
        · subst hx; dsimp only; omega
        · exact hk x hx

/-- A write to a byte that exists keeps the canonical form. -/
theorem Memory.write_wf {m : Memory} {a : Nat} (b : Byte) (h : Memory.wf m) (ha : Memory.addrExists a = true) :
    Memory.wf (m.write a b) := by
  refine ⟨Memory.write_sorted a b h.1, ?_⟩
  intro x hx
  rcases Memory.mem_write hx with hx | hx
  · subst hx; exact ha
  · exact h.2 x hx

theorem Memory.wordAddr_exists {r c : Nat} (h : Memory.inWindow r c = true) :
    Memory.addrExists (Memory.wordAddr r c) = true ∧ Memory.addrExists (Memory.wordAddr r c + 1) = true := by
  have hc : r ≤ 159 ∧ 37 ≤ c ∧ c ≤ 90 := of_decide_eq_true h
  have h1 : Memory.wordAddr r c / 2 = 128 * r + c := by unfold Memory.wordAddr; omega
  have h2 : (Memory.wordAddr r c + 1) / 2 = 128 * r + c := by unfold Memory.wordAddr; omega
  have h3 : (128 * r + c) / 128 = r := by omega
  have h4 : (128 * r + c) % 128 = c := by omega
  simp [Memory.addrExists, h1, h2, h3, h4, h]

/-- Storing a word of the window keeps the canonical form. -/
theorem Memory.writeWord_wf {m : Memory} {r c : Nat} (hi lo : Byte) (h : Memory.wf m)
    (hw : Memory.inWindow r c = true) : Memory.wf (m.writeWord r c hi lo) :=
  Memory.write_wf lo (Memory.write_wf hi h (Memory.wordAddr_exists hw).1) (Memory.wordAddr_exists hw).2

@[simp] theorem Memory.read_writeWord_high (m : Memory) (r c : Nat) (hi lo : Byte) :
    (m.writeWord r c hi lo).read (Memory.wordAddr r c) = some hi := by
  unfold Memory.writeWord
  rw [Memory.read_write_other _ _ (by omega), Memory.read_write_same]

@[simp] theorem Memory.read_writeWord_low (m : Memory) (r c : Nat) (hi lo : Byte) :
    (m.writeWord r c hi lo).read (Memory.wordAddr r c + 1) = some lo := by
  unfold Memory.writeWord
  rw [Memory.read_write_same]

theorem Memory.read_writeWord_other (m : Memory) (r c : Nat) (hi lo : Byte) {a : Nat}
    (h1 : a ≠ Memory.wordAddr r c) (h2 : a ≠ Memory.wordAddr r c + 1) :
    (m.writeWord r c hi lo).read a = m.read a := by
  unfold Memory.writeWord
  rw [Memory.read_write_other _ _ h2, Memory.read_write_other _ _ h1]

/-- Words at different places of the window have different bytes. -/
theorem Memory.wordAddr_inj {r c r' c' : Nat} (hc : c < 128) (hc' : c' < 128)
    (h : Memory.wordAddr r c = Memory.wordAddr r' c') : r = r' ∧ c = c' := by
  unfold Memory.wordAddr at h
  omega

/-- Only the last of two writes to one byte counts. -/
theorem Memory.write_write_same (m : Memory) (a : Nat) (b b' : Byte) : (m.write a b).write a b' = m.write a b' := by
  induction m with
  | nil => simp [Memory.write]
  | cons x m ih =>
    obtain ⟨k, v⟩ := x
    by_cases h1 : a < k
    · simp [Memory.write, h1]
    · by_cases h2 : a = k
      · subst h2; simp [Memory.write]
      · simp [Memory.write, h1, h2, ih]

/-- Writing a byte again, after a write to a higher address, changes nothing. -/
theorem Memory.write_again (m : Memory) {a k : Nat} (b v : Byte) (h : a < k) :
    ((m.write a b).write k v).write a b = (m.write a b).write k v := by
  have h1 : ¬ k < a := by omega
  have h2 : ¬ k = a := by omega
  induction m with
  | nil => simp [Memory.write, h1, h2]
  | cons x m ih =>
    obtain ⟨j, w⟩ := x
    by_cases h3 : a < j
    · simp [Memory.write, h3, h1, h2]
    · by_cases h4 : a = j
      · subst h4; simp [Memory.write, h1, h2]
      · have h5 : ¬ k < j := by omega
        have h6 : ¬ k = j := by omega
        simp [Memory.write, h3, h4, h5, h6, ih]

/-- Storing the same word again changes nothing. -/
theorem Memory.writeWord_writeWord (m : Memory) (r c : Nat) (hi lo : Byte) :
    (m.writeWord r c hi lo).writeWord r c hi lo = m.writeWord r c hi lo := by
  unfold Memory.writeWord
  rw [Memory.write_again _ _ _ (Nat.lt_succ_self _), Memory.write_write_same]

end Sys2Proof.Machine
end

