-- ==== Sys2Proof/Laws/Device.lean ====
section
/-! SUPPORT. The reference device model: the cursor's two views, what each step does to the RAM's canonical form, and how the
device meets the events of the block. -/

namespace Sys2Proof.Machine

@[simp] theorem Device.setRow_crow (d : Device) (r : BitVec 8) : (d.setRow r).crow = r := by
  show rowHigh r ++ rowLow r = r
  apply BitVec.eq_of_getLsbD_eq
  intro i hi
  simp only [rowHigh, rowLow, BitVec.getLsbD_append, BitVec.getLsbD_extractLsb']
  split <;> simp <;> grind

@[simp] theorem Device.setCol_ccol (d : Device) (c : BitVec 7) : (d.setCol c).ccol = c := by
  show columnHigh c ++ columnLow c = c
  apply BitVec.eq_of_getLsbD_eq
  intro i hi
  simp only [columnHigh, columnLow, BitVec.getLsbD_append, BitVec.getLsbD_extractLsb']
  split <;> simp <;> grind

@[simp] theorem Device.setCol_crow (d : Device) (c : BitVec 7) : (d.setCol c).crow = d.crow := rfl
@[simp] theorem Device.setCol_mem (d : Device) (c : BitVec 7) : (d.setCol c).mem = d.mem := rfl
@[simp] theorem Device.advance_ccol (d : Device) : d.advance.ccol = d.ccol + 1 := Device.setCol_ccol _ _
@[simp] theorem Device.advance_crow (d : Device) : d.advance.crow = d.crow := rfl
@[simp] theorem Device.advance_mem (d : Device) : d.advance.mem = d.mem := rfl
@[simp] theorem Device.advance_epoch (d : Device) : d.advance.epoch = d.epoch := rfl
@[simp] theorem Device.havocRam_mem (d : Device) : d.havocRam.mem = [] := rfl
@[simp] theorem Device.forget_mem (d : Device) : d.forget.mem = [] := rfl
@[simp] theorem Device.keepWord_mem (d : Device) : d.keepWord.mem = d.mem := rfl
@[simp] theorem Device.keepWord_epoch (d : Device) : d.keepWord.epoch = d.epoch := rfl
@[simp] theorem Device.dropWord_mem (d : Device) : d.dropWord.mem = d.mem := rfl
@[simp] theorem Device.dropWord_epoch (d : Device) : d.dropWord.epoch = d.epoch := rfl
/-- A completed word write stores its word, and beside it changes the record of known words alone (R37b). -/
theorem Device.writeWord_eq (d : Device) (h l : Byte) :
    d.writeWord h l = { d.store h l with written := (d.writeWord h l).written } := by
  unfold Device.writeWord Device.recordWord
  split <;> rfl

@[simp] theorem Device.writeWord_mem (d : Device) (h l : Byte) : (d.writeWord h l).mem = (d.store h l).mem := by
  rw [Device.writeWord_eq]
@[simp] theorem Device.writeWord_epoch (d : Device) (h l : Byte) : (d.writeWord h l).epoch = d.epoch := by
  rw [Device.writeWord_eq]; rfl
@[simp] theorem Device.writeWord_crow (d : Device) (h l : Byte) : (d.writeWord h l).crow = d.crow := by
  rw [Device.writeWord_eq]; rfl
@[simp] theorem Device.writeWord_ccol (d : Device) (h l : Byte) : (d.writeWord h l).ccol = d.ccol := by
  rw [Device.writeWord_eq]; rfl
@[simp] theorem Device.writeWord_vb (d : Device) (h l : Byte) : (d.writeWord h l).vb = d.vb := by
  rw [Device.writeWord_eq]; rfl
@[simp] theorem Device.writeWord_settings (d : Device) (h l : Byte) : (d.writeWord h l).settings = d.settings := by
  rw [Device.writeWord_eq]; rfl
@[simp] theorem Device.writeWord_draws (d : Device) (h l : Byte) : (d.writeWord h l).draws = d.draws := by
  rw [Device.writeWord_eq]; rfl
@[simp] theorem Device.havocRam_written (d : Device) : d.havocRam.written = [] := rfl

/-- An addressed word write makes its word known (R37b, R40a, R116). -/
theorem Device.cursorAddr_mem_writeWord {d : Device} (ha : d.access = .addressed) (h l : Byte) :
    d.cursorAddr ∈ (d.writeWord h l).written := by
  have e : (d.store h l).access = .addressed := ha
  unfold Device.writeWord Device.recordWord
  rw [e]
  exact List.mem_cons_self

/-- Removing a word from the record. -/
theorem Device.cursorAddr_not_mem_dropWord (d : Device) : d.cursorAddr ∉ d.dropWord.written := by
  intro h
  exact absurd (List.mem_filter.mp h).2 (by simp)

/-- A word written by neither an addressed write nor one that goes on from it is not known (R40e). -/
theorem Device.cursorAddr_not_mem_writeWord {d : Device} (ha : d.access = .unaddressed) (h l : Byte) :
    d.cursorAddr ∉ (d.writeWord h l).written := by
  have e : (d.store h l).access = .unaddressed := ha
  unfold Device.writeWord Device.recordWord
  rw [e]
  exact Device.cursorAddr_not_mem_dropWord (d.store h l)

/-- A word lost half-written is not known (R36, R38c). -/
theorem Device.cursorAddr_not_mem_scrambleWord (d : Device) : d.cursorAddr ∉ d.scrambleWord.written :=
  Device.cursorAddr_not_mem_dropWord (d.store _ _)

@[simp] theorem Device.drawn_mem (d : Device) : d.drawn.mem = d.mem := rfl
@[simp] theorem Device.drawn_epoch (d : Device) : d.drawn.epoch = d.epoch := rfl
@[simp] theorem Device.endCommand_mem (d : Device) (k : CommandClass) : (d.endCommand k).mem = d.mem := rfl
@[simp] theorem Device.endCommand_epoch (d : Device) (k : CommandClass) : (d.endCommand k).epoch = d.epoch := rfl

theorem Memory.wf_nil : Memory.wf [] := by decide

/-- Losing a half-written word keeps the canonical form. -/
theorem Device.loseHalfWord_wf {d : Device} (h : Memory.wf d.mem) : Memory.wf d.loseHalfWord.mem := by
  unfold Device.loseHalfWord
  split
  · split
    · next hw => exact Memory.writeWord_wf _ _ h hw
    · exact h
  all_goals exact h

/-- Nothing is lost when no half-written word is pending. -/
theorem Device.loseHalfWord_of_whole {d : Device} (h : d.ph.whole) : d.loseHalfWord = d := by
  unfold Device.loseHalfWord
  split
  · next b hb => exact absurd hb (h b)
  all_goals rfl

/-- What a command does to the RAM: it is kept, or forgotten. -/
theorem Device.command_mem (c : Command) (d : Device) : (d.command c).mem = d.mem ∨ (d.command c).mem = [] := by
  cases c <;> first | exact .inl rfl | exact .inr rfl

theorem Device.commandWrite_wf {d : Device} (b : Byte) (h : Memory.wf d.mem) : Memory.wf (d.commandWrite b).mem := by
  have hl := Device.loseHalfWord_wf h
  unfold Device.commandWrite
  split
  · exact hl
  · split
    · next c _ =>
      rcases Device.command_mem c d.loseHalfWord with e | e
      · rw [e]; exact hl
      · rw [e]; exact Memory.wf_nil
    · exact Memory.wf_nil

theorem Device.dataWrite_wf {d : Device} (b : Byte) (h : Memory.wf d.mem) : Memory.wf (d.dataWrite b).mem := by
  unfold Device.dataWrite
  split
  case h_3 hi _ =>
    show Memory.wf (if d.inWindow then d.writeWord hi b else d.havocRam).advance.mem
    split
    · next hw => rw [Device.advance_mem, Device.writeWord_mem]; exact Memory.writeWord_wf _ _ h hw
    · exact Memory.wf_nil
  all_goals first | exact h | exact Memory.wf_nil

theorem Device.dataRead_wf {d : Device} (h : Memory.wf d.mem) : Memory.wf d.dataRead.mem := by
  unfold Device.dataRead
  split
  all_goals first | exact h | exact Device.loseHalfWord_wf h

/-- Every transfer keeps the canonical form. -/
theorem Device.receive_wf {d : Device} (t : Transfer) (h : Memory.wf d.mem) : Memory.wf (d.receive t).mem := by
  unfold Device.receive
  split
  · exact Device.commandWrite_wf _ h
  · exact Device.dataWrite_wf _ h
  · exact h
  · exact Device.dataRead_wf h

/-- Every event keeps the canonical form. -/
theorem Device.observe_wf {d : Device} (b : Bus) (e : Event) (h : Memory.wf d.mem) : Memory.wf (d.observe b e).mem := by
  unfold Device.observe
  split
  · split
    · exact h
    · exact Memory.wf_nil
  all_goals
    split
    · exact Device.receive_wf _ h
    · exact h

/-- The decoder reads what the encoder of a command wrote (R46). -/
theorem decodeCommand_encodeCommand (c : Command) : decodeCommand (encodeCommand c) = .ok c := by
  cases c with
  | colLow n => revert n; decide
  | colHigh n => revert n; decide
  | rowLow n => revert n; decide
  | rowHigh n => revert n; decide
  | inverse e => revert e; decide
  | dispen e => revert e; decide
  | mapping x y => revert x y; decide
  | vbias => decide
  | colorPat => decide
  | colorMode => decide
  | sysReset => decide

/-- A ready device takes a table's byte as its command (R36). -/
theorem Device.commandWrite_encode {d : Device} (c : Command) (hv : d.vb = false) (hp : d.ph.whole) :
    d.commandWrite (encodeCommand c) = d.command c := by
  simp [Device.commandWrite, Device.loseHalfWord_of_whole hp, hv, decodeCommand_encodeCommand]

end Sys2Proof.Machine
end

