-- ==== Sys2Proof/Laws/State.lean ====
section
/-! SUPPORT. What each named operation does to each field of State, one lemma each, true by rfl. -/

namespace Sys2Proof.Machine

/-! ### act -/

@[simp] theorem State.act_bus (s : State) (e : Event) : (s.act e).bus = s.bus.after e := rfl
@[simp] theorem State.act_mirror (s : State) (e : Event) : (s.act e).mirror = s.mirror := rfl
@[simp] theorem State.act_row (s : State) (e : Event) : (s.act e).row = s.row := rfl
@[simp] theorem State.act_col (s : State) (e : Event) : (s.act e).col = s.col := rfl
@[simp] theorem State.act_pos (s : State) (e : Event) : (s.act e).pos = s.pos := rfl
@[simp] theorem State.act_w (s : State) (e : Event) : (s.act e).w = s.w := rfl
@[simp] theorem State.act_din (s : State) (e : Event) : (s.act e).din = s.din := rfl
@[simp] theorem State.act_busy (s : State) (e : Event) : (s.act e).busy = s.busy := rfl
@[simp] theorem State.act_op (s : State) (e : Event) : (s.act e).op = s.op := rfl
@[simp] theorem State.act_seq (s : State) (e : Event) : (s.act e).seq = s.seq + 1 := rfl
@[simp] theorem State.act_fc (s : State) (e : Event) : (s.act e).fc = s.fc := rfl
@[simp] theorem State.act_fr (s : State) (e : Event) : (s.act e).fr = s.fr := rfl
@[simp] theorem State.act_status (s : State) (e : Event) : (s.act e).status = s.status := rfl
@[simp] theorem State.act_rdata (s : State) (e : Event) : (s.act e).rdata = s.rdata := rfl
@[simp] theorem State.act_timer (s : State) (e : Event) : (s.act e).timer = s.timer := rfl
@[simp] theorem State.act_log (s : State) (e : Event) : (s.act e).log = e :: s.log := rfl
@[simp] theorem State.act_accepted (s : State) (e : Event) : (s.act e).accepted = s.accepted := rfl
@[simp] theorem State.act_responses (s : State) (e : Event) : (s.act e).responses = s.responses := rfl
@[simp] theorem State.act_host (s : State) (e : Event) : (s.act e).host = s.host := rfl
@[simp] theorem State.act_oracle (s : State) (e : Event) : (s.act e).oracle = s.oracle := rfl
@[simp] theorem State.act_dev (s : State) (e : Event) : (s.act e).dev = s.dev.observe s.bus e := rfl

/-! ### setLine -/

@[simp] theorem State.setLine_bus (s : State) (l : Line) (a : Bool) : (s.setLine l a).bus = s.bus.after (.line l a) := rfl
@[simp] theorem State.setLine_mirror (s : State) (l : Line) (a : Bool) : (s.setLine l a).mirror = s.mirror := rfl
@[simp] theorem State.setLine_row (s : State) (l : Line) (a : Bool) : (s.setLine l a).row = s.row := rfl
@[simp] theorem State.setLine_col (s : State) (l : Line) (a : Bool) : (s.setLine l a).col = s.col := rfl
@[simp] theorem State.setLine_pos (s : State) (l : Line) (a : Bool) : (s.setLine l a).pos = s.pos := rfl
@[simp] theorem State.setLine_w (s : State) (l : Line) (a : Bool) : (s.setLine l a).w = s.w := rfl
@[simp] theorem State.setLine_din (s : State) (l : Line) (a : Bool) : (s.setLine l a).din = s.din := rfl
@[simp] theorem State.setLine_busy (s : State) (l : Line) (a : Bool) : (s.setLine l a).busy = s.busy := rfl
@[simp] theorem State.setLine_op (s : State) (l : Line) (a : Bool) : (s.setLine l a).op = s.op := rfl
@[simp] theorem State.setLine_seq (s : State) (l : Line) (a : Bool) : (s.setLine l a).seq = s.seq + 1 := rfl
@[simp] theorem State.setLine_fc (s : State) (l : Line) (a : Bool) : (s.setLine l a).fc = s.fc := rfl
@[simp] theorem State.setLine_fr (s : State) (l : Line) (a : Bool) : (s.setLine l a).fr = s.fr := rfl
@[simp] theorem State.setLine_status (s : State) (l : Line) (a : Bool) : (s.setLine l a).status = s.status := rfl
@[simp] theorem State.setLine_rdata (s : State) (l : Line) (a : Bool) : (s.setLine l a).rdata = s.rdata := rfl
@[simp] theorem State.setLine_timer (s : State) (l : Line) (a : Bool) : (s.setLine l a).timer = s.timer := rfl
@[simp] theorem State.setLine_log (s : State) (l : Line) (a : Bool) : (s.setLine l a).log = .line l a :: s.log := rfl
@[simp] theorem State.setLine_accepted (s : State) (l : Line) (a : Bool) : (s.setLine l a).accepted = s.accepted := rfl
@[simp] theorem State.setLine_responses (s : State) (l : Line) (a : Bool) : (s.setLine l a).responses = s.responses := rfl
@[simp] theorem State.setLine_host (s : State) (l : Line) (a : Bool) : (s.setLine l a).host = s.host := rfl
@[simp] theorem State.setLine_oracle (s : State) (l : Line) (a : Bool) : (s.setLine l a).oracle = s.oracle := rfl
@[simp] theorem State.setLine_dev (s : State) (l : Line) (a : Bool) : (s.setLine l a).dev = s.dev.observe s.bus (.line l a) := rfl

/-! ### setDir -/

@[simp] theorem State.setDir_bus (s : State) (d : Dir) : (s.setDir d).bus = { s.bus with dir := d } := rfl
@[simp] theorem State.setDir_mirror (s : State) (d : Dir) : (s.setDir d).mirror = s.mirror := rfl
@[simp] theorem State.setDir_row (s : State) (d : Dir) : (s.setDir d).row = s.row := rfl
@[simp] theorem State.setDir_col (s : State) (d : Dir) : (s.setDir d).col = s.col := rfl
@[simp] theorem State.setDir_pos (s : State) (d : Dir) : (s.setDir d).pos = s.pos := rfl
@[simp] theorem State.setDir_w (s : State) (d : Dir) : (s.setDir d).w = s.w := rfl
@[simp] theorem State.setDir_din (s : State) (d : Dir) : (s.setDir d).din = s.din := rfl
@[simp] theorem State.setDir_busy (s : State) (d : Dir) : (s.setDir d).busy = s.busy := rfl
@[simp] theorem State.setDir_op (s : State) (d : Dir) : (s.setDir d).op = s.op := rfl
@[simp] theorem State.setDir_seq (s : State) (d : Dir) : (s.setDir d).seq = s.seq + 1 := rfl
@[simp] theorem State.setDir_fc (s : State) (d : Dir) : (s.setDir d).fc = s.fc := rfl
@[simp] theorem State.setDir_fr (s : State) (d : Dir) : (s.setDir d).fr = s.fr := rfl
@[simp] theorem State.setDir_status (s : State) (d : Dir) : (s.setDir d).status = s.status := rfl
@[simp] theorem State.setDir_rdata (s : State) (d : Dir) : (s.setDir d).rdata = s.rdata := rfl
@[simp] theorem State.setDir_timer (s : State) (d : Dir) : (s.setDir d).timer = s.timer := rfl
@[simp] theorem State.setDir_log (s : State) (d : Dir) : (s.setDir d).log = .dir d :: s.log := rfl
@[simp] theorem State.setDir_accepted (s : State) (d : Dir) : (s.setDir d).accepted = s.accepted := rfl
@[simp] theorem State.setDir_responses (s : State) (d : Dir) : (s.setDir d).responses = s.responses := rfl
@[simp] theorem State.setDir_host (s : State) (d : Dir) : (s.setDir d).host = s.host := rfl
@[simp] theorem State.setDir_oracle (s : State) (d : Dir) : (s.setDir d).oracle = s.oracle := rfl
@[simp] theorem State.setDir_dev (s : State) (d : Dir) : (s.setDir d).dev = s.dev := rfl

/-! ### drive -/

@[simp] theorem State.drive_bus (s : State) (v : Byte) : (s.drive v).bus = { s.bus with dout := v } := rfl
@[simp] theorem State.drive_mirror (s : State) (v : Byte) : (s.drive v).mirror = s.mirror := rfl
@[simp] theorem State.drive_row (s : State) (v : Byte) : (s.drive v).row = s.row := rfl
@[simp] theorem State.drive_col (s : State) (v : Byte) : (s.drive v).col = s.col := rfl
@[simp] theorem State.drive_pos (s : State) (v : Byte) : (s.drive v).pos = s.pos := rfl
@[simp] theorem State.drive_w (s : State) (v : Byte) : (s.drive v).w = s.w := rfl
@[simp] theorem State.drive_din (s : State) (v : Byte) : (s.drive v).din = s.din := rfl
@[simp] theorem State.drive_busy (s : State) (v : Byte) : (s.drive v).busy = s.busy := rfl
@[simp] theorem State.drive_op (s : State) (v : Byte) : (s.drive v).op = s.op := rfl
@[simp] theorem State.drive_seq (s : State) (v : Byte) : (s.drive v).seq = s.seq + 1 := rfl
@[simp] theorem State.drive_fc (s : State) (v : Byte) : (s.drive v).fc = s.fc := rfl
@[simp] theorem State.drive_fr (s : State) (v : Byte) : (s.drive v).fr = s.fr := rfl
@[simp] theorem State.drive_status (s : State) (v : Byte) : (s.drive v).status = s.status := rfl
@[simp] theorem State.drive_rdata (s : State) (v : Byte) : (s.drive v).rdata = s.rdata := rfl
@[simp] theorem State.drive_timer (s : State) (v : Byte) : (s.drive v).timer = s.timer := rfl
@[simp] theorem State.drive_log (s : State) (v : Byte) : (s.drive v).log = .drive v :: s.log := rfl
@[simp] theorem State.drive_accepted (s : State) (v : Byte) : (s.drive v).accepted = s.accepted := rfl
@[simp] theorem State.drive_responses (s : State) (v : Byte) : (s.drive v).responses = s.responses := rfl
@[simp] theorem State.drive_host (s : State) (v : Byte) : (s.drive v).host = s.host := rfl
@[simp] theorem State.drive_oracle (s : State) (v : Byte) : (s.drive v).oracle = s.oracle := rfl
@[simp] theorem State.drive_dev (s : State) (v : Byte) : (s.drive v).dev = s.dev := rfl

/-! ### loadTimer -/

@[simp] theorem State.loadTimer_bus (s : State) (n : Nat) : (s.loadTimer n).bus = s.bus := rfl
@[simp] theorem State.loadTimer_mirror (s : State) (n : Nat) : (s.loadTimer n).mirror = s.mirror := rfl
@[simp] theorem State.loadTimer_row (s : State) (n : Nat) : (s.loadTimer n).row = s.row := rfl
@[simp] theorem State.loadTimer_col (s : State) (n : Nat) : (s.loadTimer n).col = s.col := rfl
@[simp] theorem State.loadTimer_pos (s : State) (n : Nat) : (s.loadTimer n).pos = s.pos := rfl
@[simp] theorem State.loadTimer_w (s : State) (n : Nat) : (s.loadTimer n).w = s.w := rfl
@[simp] theorem State.loadTimer_din (s : State) (n : Nat) : (s.loadTimer n).din = s.din := rfl
@[simp] theorem State.loadTimer_busy (s : State) (n : Nat) : (s.loadTimer n).busy = s.busy := rfl
@[simp] theorem State.loadTimer_op (s : State) (n : Nat) : (s.loadTimer n).op = s.op := rfl
@[simp] theorem State.loadTimer_seq (s : State) (n : Nat) : (s.loadTimer n).seq = s.seq := rfl
@[simp] theorem State.loadTimer_fc (s : State) (n : Nat) : (s.loadTimer n).fc = s.fc := rfl
@[simp] theorem State.loadTimer_fr (s : State) (n : Nat) : (s.loadTimer n).fr = s.fr := rfl
@[simp] theorem State.loadTimer_status (s : State) (n : Nat) : (s.loadTimer n).status = s.status := rfl
@[simp] theorem State.loadTimer_rdata (s : State) (n : Nat) : (s.loadTimer n).rdata = s.rdata := rfl
@[simp] theorem State.loadTimer_timer (s : State) (n : Nat) : (s.loadTimer n).timer = n := rfl
@[simp] theorem State.loadTimer_log (s : State) (n : Nat) : (s.loadTimer n).log = s.log := rfl
@[simp] theorem State.loadTimer_accepted (s : State) (n : Nat) : (s.loadTimer n).accepted = s.accepted := rfl
@[simp] theorem State.loadTimer_responses (s : State) (n : Nat) : (s.loadTimer n).responses = s.responses := rfl
@[simp] theorem State.loadTimer_host (s : State) (n : Nat) : (s.loadTimer n).host = s.host := rfl
@[simp] theorem State.loadTimer_oracle (s : State) (n : Nat) : (s.loadTimer n).oracle = s.oracle := rfl
@[simp] theorem State.loadTimer_dev (s : State) (n : Nat) : (s.loadTimer n).dev = s.dev := rfl

/-! ### awaitTimer -/

@[simp] theorem State.awaitTimer_bus (s : State) : (s.awaitTimer).bus = s.bus := rfl
@[simp] theorem State.awaitTimer_mirror (s : State) : (s.awaitTimer).mirror = s.mirror := rfl
@[simp] theorem State.awaitTimer_row (s : State) : (s.awaitTimer).row = s.row := rfl
@[simp] theorem State.awaitTimer_col (s : State) : (s.awaitTimer).col = s.col := rfl
@[simp] theorem State.awaitTimer_pos (s : State) : (s.awaitTimer).pos = s.pos := rfl
@[simp] theorem State.awaitTimer_w (s : State) : (s.awaitTimer).w = s.w := rfl
@[simp] theorem State.awaitTimer_din (s : State) : (s.awaitTimer).din = s.din := rfl
@[simp] theorem State.awaitTimer_busy (s : State) : (s.awaitTimer).busy = s.busy := rfl
@[simp] theorem State.awaitTimer_op (s : State) : (s.awaitTimer).op = s.op := rfl
@[simp] theorem State.awaitTimer_seq (s : State) : (s.awaitTimer).seq = s.seq := rfl
@[simp] theorem State.awaitTimer_fc (s : State) : (s.awaitTimer).fc = s.fc := rfl
@[simp] theorem State.awaitTimer_fr (s : State) : (s.awaitTimer).fr = s.fr := rfl
@[simp] theorem State.awaitTimer_status (s : State) : (s.awaitTimer).status = s.status := rfl
@[simp] theorem State.awaitTimer_rdata (s : State) : (s.awaitTimer).rdata = s.rdata := rfl
@[simp] theorem State.awaitTimer_timer (s : State) : (s.awaitTimer).timer = 0 := rfl
@[simp] theorem State.awaitTimer_log (s : State) : (s.awaitTimer).log = s.log := rfl
@[simp] theorem State.awaitTimer_accepted (s : State) : (s.awaitTimer).accepted = s.accepted := rfl
@[simp] theorem State.awaitTimer_responses (s : State) : (s.awaitTimer).responses = s.responses := rfl
@[simp] theorem State.awaitTimer_host (s : State) : (s.awaitTimer).host = s.host := rfl
@[simp] theorem State.awaitTimer_oracle (s : State) : (s.awaitTimer).oracle = s.oracle := rfl
@[simp] theorem State.awaitTimer_dev (s : State) : (s.awaitTimer).dev = s.dev := rfl

/-! ### hold -/

@[simp] theorem State.hold_bus (s : State) (n : Nat) : (s.hold n).bus = s.bus := rfl
@[simp] theorem State.hold_mirror (s : State) (n : Nat) : (s.hold n).mirror = s.mirror := rfl
@[simp] theorem State.hold_row (s : State) (n : Nat) : (s.hold n).row = s.row := rfl
@[simp] theorem State.hold_col (s : State) (n : Nat) : (s.hold n).col = s.col := rfl
@[simp] theorem State.hold_pos (s : State) (n : Nat) : (s.hold n).pos = s.pos := rfl
@[simp] theorem State.hold_w (s : State) (n : Nat) : (s.hold n).w = s.w := rfl
@[simp] theorem State.hold_din (s : State) (n : Nat) : (s.hold n).din = s.din := rfl
@[simp] theorem State.hold_busy (s : State) (n : Nat) : (s.hold n).busy = s.busy := rfl
@[simp] theorem State.hold_op (s : State) (n : Nat) : (s.hold n).op = s.op := rfl
@[simp] theorem State.hold_seq (s : State) (n : Nat) : (s.hold n).seq = s.seq + 1 := rfl
@[simp] theorem State.hold_fc (s : State) (n : Nat) : (s.hold n).fc = s.fc := rfl
@[simp] theorem State.hold_fr (s : State) (n : Nat) : (s.hold n).fr = s.fr := rfl
@[simp] theorem State.hold_status (s : State) (n : Nat) : (s.hold n).status = s.status := rfl
@[simp] theorem State.hold_rdata (s : State) (n : Nat) : (s.hold n).rdata = s.rdata := rfl
@[simp] theorem State.hold_timer (s : State) (n : Nat) : (s.hold n).timer = 0 := rfl
@[simp] theorem State.hold_log (s : State) (n : Nat) : (s.hold n).log = .hold n :: s.log := rfl
@[simp] theorem State.hold_accepted (s : State) (n : Nat) : (s.hold n).accepted = s.accepted := rfl
@[simp] theorem State.hold_responses (s : State) (n : Nat) : (s.hold n).responses = s.responses := rfl
@[simp] theorem State.hold_host (s : State) (n : Nat) : (s.hold n).host = s.host := rfl
@[simp] theorem State.hold_oracle (s : State) (n : Nat) : (s.hold n).oracle = s.oracle := rfl
@[simp] theorem State.hold_dev (s : State) (n : Nat) : (s.hold n).dev = s.dev := rfl

/-! ### sample -/

@[simp] theorem State.sample_bus (s : State) : (s.sample).bus = s.bus := rfl
@[simp] theorem State.sample_mirror (s : State) : (s.sample).mirror = s.mirror := rfl
@[simp] theorem State.sample_row (s : State) : (s.sample).row = s.row := rfl
@[simp] theorem State.sample_col (s : State) : (s.sample).col = s.col := rfl
@[simp] theorem State.sample_pos (s : State) : (s.sample).pos = s.pos := rfl
@[simp] theorem State.sample_w (s : State) : (s.sample).w = s.w := rfl
@[simp] theorem State.sample_din (s : State) : (s.sample).din = s.pinByte := rfl
@[simp] theorem State.sample_busy (s : State) : (s.sample).busy = s.busy := rfl
@[simp] theorem State.sample_op (s : State) : (s.sample).op = s.op := rfl
@[simp] theorem State.sample_seq (s : State) : (s.sample).seq = s.seq + 1 := rfl
@[simp] theorem State.sample_fc (s : State) : (s.sample).fc = s.fc := rfl
@[simp] theorem State.sample_fr (s : State) : (s.sample).fr = s.fr := rfl
@[simp] theorem State.sample_status (s : State) : (s.sample).status = s.status := rfl
@[simp] theorem State.sample_rdata (s : State) : (s.sample).rdata = s.rdata := rfl
@[simp] theorem State.sample_timer (s : State) : (s.sample).timer = s.timer := rfl
@[simp] theorem State.sample_log (s : State) : (s.sample).log = .sample s.pinByte :: s.log := rfl
@[simp] theorem State.sample_accepted (s : State) : (s.sample).accepted = s.accepted := rfl
@[simp] theorem State.sample_responses (s : State) : (s.sample).responses = s.responses := rfl
@[simp] theorem State.sample_host (s : State) : (s.sample).host = s.host := rfl
@[simp] theorem State.sample_oracle (s : State) : (s.sample).oracle = s.oracle.afterSample := rfl
@[simp] theorem State.sample_dev (s : State) : (s.sample).dev = (s.dev.observe s.bus (.sample s.pinByte)).drawn := rfl

/-! ### accept -/

@[simp] theorem State.accept_bus (s : State) (req : Request) : (s.accept req).bus = s.bus := rfl
@[simp] theorem State.accept_mirror (s : State) (req : Request) : (s.accept req).mirror = s.mirror := rfl
@[simp] theorem State.accept_row (s : State) (req : Request) : (s.accept req).row = s.row := rfl
@[simp] theorem State.accept_col (s : State) (req : Request) : (s.accept req).col = s.col := rfl
@[simp] theorem State.accept_pos (s : State) (req : Request) : (s.accept req).pos = s.pos := rfl
@[simp] theorem State.accept_w (s : State) (req : Request) : (s.accept req).w = s.w := rfl
@[simp] theorem State.accept_din (s : State) (req : Request) : (s.accept req).din = s.din := rfl
@[simp] theorem State.accept_busy (s : State) (req : Request) : (s.accept req).busy = true := rfl
@[simp] theorem State.accept_op (s : State) (req : Request) : (s.accept req).op = req := rfl
@[simp] theorem State.accept_seq (s : State) (req : Request) : (s.accept req).seq = 0 := rfl
@[simp] theorem State.accept_fc (s : State) (req : Request) : (s.accept req).fc = s.fc := rfl
@[simp] theorem State.accept_fr (s : State) (req : Request) : (s.accept req).fr = s.fr := rfl
@[simp] theorem State.accept_status (s : State) (req : Request) : (s.accept req).status = s.status := rfl
@[simp] theorem State.accept_rdata (s : State) (req : Request) : (s.accept req).rdata = s.rdata := rfl
@[simp] theorem State.accept_timer (s : State) (req : Request) : (s.accept req).timer = s.timer := rfl
@[simp] theorem State.accept_log (s : State) (req : Request) : (s.accept req).log = s.log := rfl
@[simp] theorem State.accept_accepted (s : State) (req : Request) : (s.accept req).accepted = s.accepted ++ [req] := rfl
@[simp] theorem State.accept_responses (s : State) (req : Request) : (s.accept req).responses = s.responses := rfl
@[simp] theorem State.accept_host (s : State) (req : Request) : (s.accept req).host = s.host := rfl
@[simp] theorem State.accept_oracle (s : State) (req : Request) : (s.accept req).oracle = s.oracle := rfl
@[simp] theorem State.accept_dev (s : State) (req : Request) : (s.accept req).dev = s.dev := rfl

/-! ### finish -/

@[simp] theorem State.finish_bus (s : State) (c : BitVec 3) : (s.finish c).bus = s.bus := rfl
@[simp] theorem State.finish_mirror (s : State) (c : BitVec 3) : (s.finish c).mirror = s.mirror := rfl
@[simp] theorem State.finish_row (s : State) (c : BitVec 3) : (s.finish c).row = s.row := rfl
@[simp] theorem State.finish_col (s : State) (c : BitVec 3) : (s.finish c).col = s.col := rfl
@[simp] theorem State.finish_pos (s : State) (c : BitVec 3) : (s.finish c).pos = s.pos := rfl
@[simp] theorem State.finish_w (s : State) (c : BitVec 3) : (s.finish c).w = s.w := rfl
@[simp] theorem State.finish_din (s : State) (c : BitVec 3) : (s.finish c).din = s.din := rfl
@[simp] theorem State.finish_busy (s : State) (c : BitVec 3) : (s.finish c).busy = false := rfl
@[simp] theorem State.finish_op (s : State) (c : BitVec 3) : (s.finish c).op = s.op := rfl
@[simp] theorem State.finish_seq (s : State) (c : BitVec 3) : (s.finish c).seq = s.seq := rfl
@[simp] theorem State.finish_fc (s : State) (c : BitVec 3) : (s.finish c).fc = s.fc := rfl
@[simp] theorem State.finish_fr (s : State) (c : BitVec 3) : (s.finish c).fr = s.fr := rfl
@[simp] theorem State.finish_status (s : State) (c : BitVec 3) : (s.finish c).status = c := rfl
@[simp] theorem State.finish_rdata (s : State) (c : BitVec 3) : (s.finish c).rdata = s.rdata := rfl
@[simp] theorem State.finish_timer (s : State) (c : BitVec 3) : (s.finish c).timer = s.timer := rfl
@[simp] theorem State.finish_log (s : State) (c : BitVec 3) : (s.finish c).log = s.log := rfl
@[simp] theorem State.finish_accepted (s : State) (c : BitVec 3) : (s.finish c).accepted = s.accepted := rfl
@[simp] theorem State.finish_responses (s : State) (c : BitVec 3) : (s.finish c).responses = s.responses ++ [responseWord c s.rdata] := rfl
@[simp] theorem State.finish_host (s : State) (c : BitVec 3) : (s.finish c).host = s.host := rfl
@[simp] theorem State.finish_oracle (s : State) (c : BitVec 3) : (s.finish c).oracle = s.oracle := rfl
@[simp] theorem State.finish_dev (s : State) (c : BitVec 3) : (s.finish c).dev = s.dev := rfl

/-! ### reject -/

@[simp] theorem State.reject_bus (s : State) (c : RejectCause) : (s.reject c).bus = s.bus := rfl
@[simp] theorem State.reject_mirror (s : State) (c : RejectCause) : (s.reject c).mirror = s.mirror := rfl
@[simp] theorem State.reject_row (s : State) (c : RejectCause) : (s.reject c).row = s.row := rfl
@[simp] theorem State.reject_col (s : State) (c : RejectCause) : (s.reject c).col = s.col := rfl
@[simp] theorem State.reject_pos (s : State) (c : RejectCause) : (s.reject c).pos = s.pos := rfl
@[simp] theorem State.reject_w (s : State) (c : RejectCause) : (s.reject c).w = s.w := rfl
@[simp] theorem State.reject_din (s : State) (c : RejectCause) : (s.reject c).din = s.din := rfl
@[simp] theorem State.reject_busy (s : State) (c : RejectCause) : (s.reject c).busy = false := rfl
@[simp] theorem State.reject_op (s : State) (c : RejectCause) : (s.reject c).op = s.op := rfl
@[simp] theorem State.reject_seq (s : State) (c : RejectCause) : (s.reject c).seq = s.seq := rfl
@[simp] theorem State.reject_fc (s : State) (c : RejectCause) : (s.reject c).fc = s.fc := rfl
@[simp] theorem State.reject_fr (s : State) (c : RejectCause) : (s.reject c).fr = s.fr := rfl
@[simp] theorem State.reject_status (s : State) (c : RejectCause) : (s.reject c).status = rejectCode c := rfl
@[simp] theorem State.reject_rdata (s : State) (c : RejectCause) : (s.reject c).rdata = s.rdata := rfl
@[simp] theorem State.reject_timer (s : State) (c : RejectCause) : (s.reject c).timer = s.timer := rfl
@[simp] theorem State.reject_log (s : State) (c : RejectCause) : (s.reject c).log = s.log := rfl
@[simp] theorem State.reject_accepted (s : State) (c : RejectCause) : (s.reject c).accepted = s.accepted := rfl
@[simp] theorem State.reject_responses (s : State) (c : RejectCause) : (s.reject c).responses = s.responses ++ [responseWord (rejectCode c) s.rdata] := rfl
@[simp] theorem State.reject_host (s : State) (c : RejectCause) : (s.reject c).host = s.host := rfl
@[simp] theorem State.reject_oracle (s : State) (c : RejectCause) : (s.reject c).oracle = s.oracle := rfl
@[simp] theorem State.reject_dev (s : State) (c : RejectCause) : (s.reject c).dev = s.dev := rfl

/-! ### setRdata -/

@[simp] theorem State.setRdata_bus (s : State) (v : Word) : (s.setRdata v).bus = s.bus := rfl
@[simp] theorem State.setRdata_mirror (s : State) (v : Word) : (s.setRdata v).mirror = s.mirror := rfl
@[simp] theorem State.setRdata_row (s : State) (v : Word) : (s.setRdata v).row = s.row := rfl
@[simp] theorem State.setRdata_col (s : State) (v : Word) : (s.setRdata v).col = s.col := rfl
@[simp] theorem State.setRdata_pos (s : State) (v : Word) : (s.setRdata v).pos = s.pos := rfl
@[simp] theorem State.setRdata_w (s : State) (v : Word) : (s.setRdata v).w = s.w := rfl
@[simp] theorem State.setRdata_din (s : State) (v : Word) : (s.setRdata v).din = s.din := rfl
@[simp] theorem State.setRdata_busy (s : State) (v : Word) : (s.setRdata v).busy = s.busy := rfl
@[simp] theorem State.setRdata_op (s : State) (v : Word) : (s.setRdata v).op = s.op := rfl
@[simp] theorem State.setRdata_seq (s : State) (v : Word) : (s.setRdata v).seq = s.seq := rfl
@[simp] theorem State.setRdata_fc (s : State) (v : Word) : (s.setRdata v).fc = s.fc := rfl
@[simp] theorem State.setRdata_fr (s : State) (v : Word) : (s.setRdata v).fr = s.fr := rfl
@[simp] theorem State.setRdata_status (s : State) (v : Word) : (s.setRdata v).status = s.status := rfl
@[simp] theorem State.setRdata_rdata (s : State) (v : Word) : (s.setRdata v).rdata = v := rfl
@[simp] theorem State.setRdata_timer (s : State) (v : Word) : (s.setRdata v).timer = s.timer := rfl
@[simp] theorem State.setRdata_log (s : State) (v : Word) : (s.setRdata v).log = s.log := rfl
@[simp] theorem State.setRdata_accepted (s : State) (v : Word) : (s.setRdata v).accepted = s.accepted := rfl
@[simp] theorem State.setRdata_responses (s : State) (v : Word) : (s.setRdata v).responses = s.responses := rfl
@[simp] theorem State.setRdata_host (s : State) (v : Word) : (s.setRdata v).host = s.host := rfl
@[simp] theorem State.setRdata_oracle (s : State) (v : Word) : (s.setRdata v).oracle = s.oracle := rfl
@[simp] theorem State.setRdata_dev (s : State) (v : Word) : (s.setRdata v).dev = s.dev := rfl

/-! ### setW -/

@[simp] theorem State.setW_bus (s : State) (v : Word) : (s.setW v).bus = s.bus := rfl
@[simp] theorem State.setW_mirror (s : State) (v : Word) : (s.setW v).mirror = s.mirror := rfl
@[simp] theorem State.setW_row (s : State) (v : Word) : (s.setW v).row = s.row := rfl
@[simp] theorem State.setW_col (s : State) (v : Word) : (s.setW v).col = s.col := rfl
@[simp] theorem State.setW_pos (s : State) (v : Word) : (s.setW v).pos = s.pos := rfl
@[simp] theorem State.setW_w (s : State) (v : Word) : (s.setW v).w = v := rfl
@[simp] theorem State.setW_din (s : State) (v : Word) : (s.setW v).din = s.din := rfl
@[simp] theorem State.setW_busy (s : State) (v : Word) : (s.setW v).busy = s.busy := rfl
@[simp] theorem State.setW_op (s : State) (v : Word) : (s.setW v).op = s.op := rfl
@[simp] theorem State.setW_seq (s : State) (v : Word) : (s.setW v).seq = s.seq := rfl
@[simp] theorem State.setW_fc (s : State) (v : Word) : (s.setW v).fc = s.fc := rfl
@[simp] theorem State.setW_fr (s : State) (v : Word) : (s.setW v).fr = s.fr := rfl
@[simp] theorem State.setW_status (s : State) (v : Word) : (s.setW v).status = s.status := rfl
@[simp] theorem State.setW_rdata (s : State) (v : Word) : (s.setW v).rdata = s.rdata := rfl
@[simp] theorem State.setW_timer (s : State) (v : Word) : (s.setW v).timer = s.timer := rfl
@[simp] theorem State.setW_log (s : State) (v : Word) : (s.setW v).log = s.log := rfl
@[simp] theorem State.setW_accepted (s : State) (v : Word) : (s.setW v).accepted = s.accepted := rfl
@[simp] theorem State.setW_responses (s : State) (v : Word) : (s.setW v).responses = s.responses := rfl
@[simp] theorem State.setW_host (s : State) (v : Word) : (s.setW v).host = s.host := rfl
@[simp] theorem State.setW_oracle (s : State) (v : Word) : (s.setW v).oracle = s.oracle := rfl
@[simp] theorem State.setW_dev (s : State) (v : Word) : (s.setW v).dev = s.dev := rfl

/-! ### setCol -/

@[simp] theorem State.setCol_bus (s : State) (c : BitVec 7) : (s.setCol c).bus = s.bus := rfl
@[simp] theorem State.setCol_mirror (s : State) (c : BitVec 7) : (s.setCol c).mirror = s.mirror := rfl
@[simp] theorem State.setCol_row (s : State) (c : BitVec 7) : (s.setCol c).row = s.row := rfl
@[simp] theorem State.setCol_col (s : State) (c : BitVec 7) : (s.setCol c).col = c := rfl
@[simp] theorem State.setCol_pos (s : State) (c : BitVec 7) : (s.setCol c).pos = s.pos := rfl
@[simp] theorem State.setCol_w (s : State) (c : BitVec 7) : (s.setCol c).w = s.w := rfl
@[simp] theorem State.setCol_din (s : State) (c : BitVec 7) : (s.setCol c).din = s.din := rfl
@[simp] theorem State.setCol_busy (s : State) (c : BitVec 7) : (s.setCol c).busy = s.busy := rfl
@[simp] theorem State.setCol_op (s : State) (c : BitVec 7) : (s.setCol c).op = s.op := rfl
@[simp] theorem State.setCol_seq (s : State) (c : BitVec 7) : (s.setCol c).seq = s.seq := rfl
@[simp] theorem State.setCol_fc (s : State) (c : BitVec 7) : (s.setCol c).fc = s.fc := rfl
@[simp] theorem State.setCol_fr (s : State) (c : BitVec 7) : (s.setCol c).fr = s.fr := rfl
@[simp] theorem State.setCol_status (s : State) (c : BitVec 7) : (s.setCol c).status = s.status := rfl
@[simp] theorem State.setCol_rdata (s : State) (c : BitVec 7) : (s.setCol c).rdata = s.rdata := rfl
@[simp] theorem State.setCol_timer (s : State) (c : BitVec 7) : (s.setCol c).timer = s.timer := rfl
@[simp] theorem State.setCol_log (s : State) (c : BitVec 7) : (s.setCol c).log = s.log := rfl
@[simp] theorem State.setCol_accepted (s : State) (c : BitVec 7) : (s.setCol c).accepted = s.accepted := rfl
@[simp] theorem State.setCol_responses (s : State) (c : BitVec 7) : (s.setCol c).responses = s.responses := rfl
@[simp] theorem State.setCol_host (s : State) (c : BitVec 7) : (s.setCol c).host = s.host := rfl
@[simp] theorem State.setCol_oracle (s : State) (c : BitVec 7) : (s.setCol c).oracle = s.oracle := rfl
@[simp] theorem State.setCol_dev (s : State) (c : BitVec 7) : (s.setCol c).dev = s.dev := rfl

/-! ### setRow -/

@[simp] theorem State.setRow_bus (s : State) (r : BitVec 8) : (s.setRow r).bus = s.bus := rfl
@[simp] theorem State.setRow_mirror (s : State) (r : BitVec 8) : (s.setRow r).mirror = s.mirror := rfl
@[simp] theorem State.setRow_row (s : State) (r : BitVec 8) : (s.setRow r).row = r := rfl
@[simp] theorem State.setRow_col (s : State) (r : BitVec 8) : (s.setRow r).col = s.col := rfl
@[simp] theorem State.setRow_pos (s : State) (r : BitVec 8) : (s.setRow r).pos = s.pos := rfl
@[simp] theorem State.setRow_w (s : State) (r : BitVec 8) : (s.setRow r).w = s.w := rfl
@[simp] theorem State.setRow_din (s : State) (r : BitVec 8) : (s.setRow r).din = s.din := rfl
@[simp] theorem State.setRow_busy (s : State) (r : BitVec 8) : (s.setRow r).busy = s.busy := rfl
@[simp] theorem State.setRow_op (s : State) (r : BitVec 8) : (s.setRow r).op = s.op := rfl
@[simp] theorem State.setRow_seq (s : State) (r : BitVec 8) : (s.setRow r).seq = s.seq := rfl
@[simp] theorem State.setRow_fc (s : State) (r : BitVec 8) : (s.setRow r).fc = s.fc := rfl
@[simp] theorem State.setRow_fr (s : State) (r : BitVec 8) : (s.setRow r).fr = s.fr := rfl
@[simp] theorem State.setRow_status (s : State) (r : BitVec 8) : (s.setRow r).status = s.status := rfl
@[simp] theorem State.setRow_rdata (s : State) (r : BitVec 8) : (s.setRow r).rdata = s.rdata := rfl
@[simp] theorem State.setRow_timer (s : State) (r : BitVec 8) : (s.setRow r).timer = s.timer := rfl
@[simp] theorem State.setRow_log (s : State) (r : BitVec 8) : (s.setRow r).log = s.log := rfl
@[simp] theorem State.setRow_accepted (s : State) (r : BitVec 8) : (s.setRow r).accepted = s.accepted := rfl
@[simp] theorem State.setRow_responses (s : State) (r : BitVec 8) : (s.setRow r).responses = s.responses := rfl
@[simp] theorem State.setRow_host (s : State) (r : BitVec 8) : (s.setRow r).host = s.host := rfl
@[simp] theorem State.setRow_oracle (s : State) (r : BitVec 8) : (s.setRow r).oracle = s.oracle := rfl
@[simp] theorem State.setRow_dev (s : State) (r : BitVec 8) : (s.setRow r).dev = s.dev := rfl

/-! ### setPos -/

@[simp] theorem State.setPos_bus (s : State) (p : BitVec 2) : (s.setPos p).bus = s.bus := rfl
@[simp] theorem State.setPos_mirror (s : State) (p : BitVec 2) : (s.setPos p).mirror = s.mirror := rfl
@[simp] theorem State.setPos_row (s : State) (p : BitVec 2) : (s.setPos p).row = s.row := rfl
@[simp] theorem State.setPos_col (s : State) (p : BitVec 2) : (s.setPos p).col = s.col := rfl
@[simp] theorem State.setPos_pos (s : State) (p : BitVec 2) : (s.setPos p).pos = p := rfl
@[simp] theorem State.setPos_w (s : State) (p : BitVec 2) : (s.setPos p).w = s.w := rfl
@[simp] theorem State.setPos_din (s : State) (p : BitVec 2) : (s.setPos p).din = s.din := rfl
@[simp] theorem State.setPos_busy (s : State) (p : BitVec 2) : (s.setPos p).busy = s.busy := rfl
@[simp] theorem State.setPos_op (s : State) (p : BitVec 2) : (s.setPos p).op = s.op := rfl
@[simp] theorem State.setPos_seq (s : State) (p : BitVec 2) : (s.setPos p).seq = s.seq := rfl
@[simp] theorem State.setPos_fc (s : State) (p : BitVec 2) : (s.setPos p).fc = s.fc := rfl
@[simp] theorem State.setPos_fr (s : State) (p : BitVec 2) : (s.setPos p).fr = s.fr := rfl
@[simp] theorem State.setPos_status (s : State) (p : BitVec 2) : (s.setPos p).status = s.status := rfl
@[simp] theorem State.setPos_rdata (s : State) (p : BitVec 2) : (s.setPos p).rdata = s.rdata := rfl
@[simp] theorem State.setPos_timer (s : State) (p : BitVec 2) : (s.setPos p).timer = s.timer := rfl
@[simp] theorem State.setPos_log (s : State) (p : BitVec 2) : (s.setPos p).log = s.log := rfl
@[simp] theorem State.setPos_accepted (s : State) (p : BitVec 2) : (s.setPos p).accepted = s.accepted := rfl
@[simp] theorem State.setPos_responses (s : State) (p : BitVec 2) : (s.setPos p).responses = s.responses := rfl
@[simp] theorem State.setPos_host (s : State) (p : BitVec 2) : (s.setPos p).host = s.host := rfl
@[simp] theorem State.setPos_oracle (s : State) (p : BitVec 2) : (s.setPos p).oracle = s.oracle := rfl
@[simp] theorem State.setPos_dev (s : State) (p : BitVec 2) : (s.setPos p).dev = s.dev := rfl

/-! ### setMirror -/

@[simp] theorem State.setMirror_bus (s : State) (mx my : Bool) : (s.setMirror mx my).bus = s.bus := rfl
@[simp] theorem State.setMirror_mirror (s : State) (mx my : Bool) : (s.setMirror mx my).mirror = { mx := mx, my := my } := rfl
@[simp] theorem State.setMirror_row (s : State) (mx my : Bool) : (s.setMirror mx my).row = s.row := rfl
@[simp] theorem State.setMirror_col (s : State) (mx my : Bool) : (s.setMirror mx my).col = s.col := rfl
@[simp] theorem State.setMirror_pos (s : State) (mx my : Bool) : (s.setMirror mx my).pos = s.pos := rfl
@[simp] theorem State.setMirror_w (s : State) (mx my : Bool) : (s.setMirror mx my).w = s.w := rfl
@[simp] theorem State.setMirror_din (s : State) (mx my : Bool) : (s.setMirror mx my).din = s.din := rfl
@[simp] theorem State.setMirror_busy (s : State) (mx my : Bool) : (s.setMirror mx my).busy = s.busy := rfl
@[simp] theorem State.setMirror_op (s : State) (mx my : Bool) : (s.setMirror mx my).op = s.op := rfl
@[simp] theorem State.setMirror_seq (s : State) (mx my : Bool) : (s.setMirror mx my).seq = s.seq := rfl
@[simp] theorem State.setMirror_fc (s : State) (mx my : Bool) : (s.setMirror mx my).fc = s.fc := rfl
@[simp] theorem State.setMirror_fr (s : State) (mx my : Bool) : (s.setMirror mx my).fr = s.fr := rfl
@[simp] theorem State.setMirror_status (s : State) (mx my : Bool) : (s.setMirror mx my).status = s.status := rfl
@[simp] theorem State.setMirror_rdata (s : State) (mx my : Bool) : (s.setMirror mx my).rdata = s.rdata := rfl
@[simp] theorem State.setMirror_timer (s : State) (mx my : Bool) : (s.setMirror mx my).timer = s.timer := rfl
@[simp] theorem State.setMirror_log (s : State) (mx my : Bool) : (s.setMirror mx my).log = s.log := rfl
@[simp] theorem State.setMirror_accepted (s : State) (mx my : Bool) : (s.setMirror mx my).accepted = s.accepted := rfl
@[simp] theorem State.setMirror_responses (s : State) (mx my : Bool) : (s.setMirror mx my).responses = s.responses := rfl
@[simp] theorem State.setMirror_host (s : State) (mx my : Bool) : (s.setMirror mx my).host = s.host := rfl
@[simp] theorem State.setMirror_oracle (s : State) (mx my : Bool) : (s.setMirror mx my).oracle = s.oracle := rfl
@[simp] theorem State.setMirror_dev (s : State) (mx my : Bool) : (s.setMirror mx my).dev = s.dev := rfl

/-! ### beginRound -/

@[simp] theorem State.beginRound_bus (s : State) (c : BitVec 7) (r : BitVec 8) : (s.beginRound c r).bus = s.bus := rfl
@[simp] theorem State.beginRound_mirror (s : State) (c : BitVec 7) (r : BitVec 8) : (s.beginRound c r).mirror = s.mirror := rfl
@[simp] theorem State.beginRound_row (s : State) (c : BitVec 7) (r : BitVec 8) : (s.beginRound c r).row = s.row := rfl
@[simp] theorem State.beginRound_col (s : State) (c : BitVec 7) (r : BitVec 8) : (s.beginRound c r).col = s.col := rfl
@[simp] theorem State.beginRound_pos (s : State) (c : BitVec 7) (r : BitVec 8) : (s.beginRound c r).pos = s.pos := rfl
@[simp] theorem State.beginRound_w (s : State) (c : BitVec 7) (r : BitVec 8) : (s.beginRound c r).w = s.w := rfl
@[simp] theorem State.beginRound_din (s : State) (c : BitVec 7) (r : BitVec 8) : (s.beginRound c r).din = s.din := rfl
@[simp] theorem State.beginRound_busy (s : State) (c : BitVec 7) (r : BitVec 8) : (s.beginRound c r).busy = s.busy := rfl
@[simp] theorem State.beginRound_op (s : State) (c : BitVec 7) (r : BitVec 8) : (s.beginRound c r).op = s.op := rfl
@[simp] theorem State.beginRound_seq (s : State) (c : BitVec 7) (r : BitVec 8) : (s.beginRound c r).seq = 0 := rfl
@[simp] theorem State.beginRound_fc (s : State) (c : BitVec 7) (r : BitVec 8) : (s.beginRound c r).fc = c := rfl
@[simp] theorem State.beginRound_fr (s : State) (c : BitVec 7) (r : BitVec 8) : (s.beginRound c r).fr = r := rfl
@[simp] theorem State.beginRound_status (s : State) (c : BitVec 7) (r : BitVec 8) : (s.beginRound c r).status = s.status := rfl
@[simp] theorem State.beginRound_rdata (s : State) (c : BitVec 7) (r : BitVec 8) : (s.beginRound c r).rdata = s.rdata := rfl
@[simp] theorem State.beginRound_timer (s : State) (c : BitVec 7) (r : BitVec 8) : (s.beginRound c r).timer = s.timer := rfl
@[simp] theorem State.beginRound_log (s : State) (c : BitVec 7) (r : BitVec 8) : (s.beginRound c r).log = s.log := rfl
@[simp] theorem State.beginRound_accepted (s : State) (c : BitVec 7) (r : BitVec 8) : (s.beginRound c r).accepted = s.accepted := rfl
@[simp] theorem State.beginRound_responses (s : State) (c : BitVec 7) (r : BitVec 8) : (s.beginRound c r).responses = s.responses := rfl
@[simp] theorem State.beginRound_host (s : State) (c : BitVec 7) (r : BitVec 8) : (s.beginRound c r).host = s.host := rfl
@[simp] theorem State.beginRound_oracle (s : State) (c : BitVec 7) (r : BitVec 8) : (s.beginRound c r).oracle = s.oracle := rfl
@[simp] theorem State.beginRound_dev (s : State) (c : BitVec 7) (r : BitVec 8) : (s.beginRound c r).dev = s.dev := rfl

/-! ### dropMove -/

@[simp] theorem State.dropMove_bus (s : State) : (s.dropMove).bus = s.bus := rfl
@[simp] theorem State.dropMove_mirror (s : State) : (s.dropMove).mirror = s.mirror := rfl
@[simp] theorem State.dropMove_row (s : State) : (s.dropMove).row = s.row := rfl
@[simp] theorem State.dropMove_col (s : State) : (s.dropMove).col = s.col := rfl
@[simp] theorem State.dropMove_pos (s : State) : (s.dropMove).pos = s.pos := rfl
@[simp] theorem State.dropMove_w (s : State) : (s.dropMove).w = s.w := rfl
@[simp] theorem State.dropMove_din (s : State) : (s.dropMove).din = s.din := rfl
@[simp] theorem State.dropMove_busy (s : State) : (s.dropMove).busy = s.busy := rfl
@[simp] theorem State.dropMove_op (s : State) : (s.dropMove).op = s.op := rfl
@[simp] theorem State.dropMove_seq (s : State) : (s.dropMove).seq = s.seq := rfl
@[simp] theorem State.dropMove_fc (s : State) : (s.dropMove).fc = s.fc := rfl
@[simp] theorem State.dropMove_fr (s : State) : (s.dropMove).fr = s.fr := rfl
@[simp] theorem State.dropMove_status (s : State) : (s.dropMove).status = s.status := rfl
@[simp] theorem State.dropMove_rdata (s : State) : (s.dropMove).rdata = s.rdata := rfl
@[simp] theorem State.dropMove_timer (s : State) : (s.dropMove).timer = s.timer := rfl
@[simp] theorem State.dropMove_log (s : State) : (s.dropMove).log = s.log := rfl
@[simp] theorem State.dropMove_accepted (s : State) : (s.dropMove).accepted = s.accepted := rfl
@[simp] theorem State.dropMove_responses (s : State) : (s.dropMove).responses = s.responses := rfl
@[simp] theorem State.dropMove_host (s : State) : (s.dropMove).host = s.host.tail := rfl
@[simp] theorem State.dropMove_oracle (s : State) : (s.dropMove).oracle = s.oracle := rfl
@[simp] theorem State.dropMove_dev (s : State) : (s.dropMove).dev = s.dev := rfl

/-! ### blockReset and abandon -/

@[simp] theorem State.blockReset_bus (s : State) : s.blockReset.bus = State.reset.bus := rfl
@[simp] theorem State.blockReset_mirror (s : State) : s.blockReset.mirror = State.reset.mirror := rfl
@[simp] theorem State.blockReset_row (s : State) : s.blockReset.row = State.reset.row := rfl
@[simp] theorem State.blockReset_col (s : State) : s.blockReset.col = State.reset.col := rfl
@[simp] theorem State.blockReset_pos (s : State) : s.blockReset.pos = State.reset.pos := rfl
@[simp] theorem State.blockReset_w (s : State) : s.blockReset.w = State.reset.w := rfl
@[simp] theorem State.blockReset_din (s : State) : s.blockReset.din = State.reset.din := rfl
@[simp] theorem State.blockReset_busy (s : State) : s.blockReset.busy = State.reset.busy := rfl
@[simp] theorem State.blockReset_op (s : State) : s.blockReset.op = State.reset.op := rfl
@[simp] theorem State.blockReset_seq (s : State) : s.blockReset.seq = State.reset.seq := rfl
@[simp] theorem State.blockReset_fc (s : State) : s.blockReset.fc = State.reset.fc := rfl
@[simp] theorem State.blockReset_fr (s : State) : s.blockReset.fr = State.reset.fr := rfl
@[simp] theorem State.blockReset_status (s : State) : s.blockReset.status = State.reset.status := rfl
@[simp] theorem State.blockReset_rdata (s : State) : s.blockReset.rdata = State.reset.rdata := rfl
@[simp] theorem State.blockReset_timer (s : State) : s.blockReset.timer = State.reset.timer := rfl
@[simp] theorem State.blockReset_log (s : State) : s.blockReset.log = State.reset.log := rfl
@[simp] theorem State.blockReset_accepted (s : State) : s.blockReset.accepted = [] := rfl
@[simp] theorem State.blockReset_responses (s : State) : s.blockReset.responses = s.responses := rfl
@[simp] theorem State.blockReset_host (s : State) : s.blockReset.host = s.host := rfl
@[simp] theorem State.blockReset_oracle (s : State) : s.blockReset.oracle = s.oracle := rfl
@[simp] theorem State.blockReset_dev (s : State) : s.blockReset.dev = s.dev := rfl

@[simp] theorem State.abandon_bus (s : State) : s.abandon.bus = State.reset.bus := rfl
@[simp] theorem State.abandon_mirror (s : State) : s.abandon.mirror = State.reset.mirror := rfl
@[simp] theorem State.abandon_row (s : State) : s.abandon.row = State.reset.row := rfl
@[simp] theorem State.abandon_col (s : State) : s.abandon.col = State.reset.col := rfl
@[simp] theorem State.abandon_pos (s : State) : s.abandon.pos = State.reset.pos := rfl
@[simp] theorem State.abandon_w (s : State) : s.abandon.w = State.reset.w := rfl
@[simp] theorem State.abandon_din (s : State) : s.abandon.din = State.reset.din := rfl
@[simp] theorem State.abandon_busy (s : State) : s.abandon.busy = State.reset.busy := rfl
@[simp] theorem State.abandon_op (s : State) : s.abandon.op = State.reset.op := rfl
@[simp] theorem State.abandon_seq (s : State) : s.abandon.seq = State.reset.seq := rfl
@[simp] theorem State.abandon_fc (s : State) : s.abandon.fc = State.reset.fc := rfl
@[simp] theorem State.abandon_fr (s : State) : s.abandon.fr = State.reset.fr := rfl
@[simp] theorem State.abandon_status (s : State) : s.abandon.status = State.reset.status := rfl
@[simp] theorem State.abandon_rdata (s : State) : s.abandon.rdata = State.reset.rdata := rfl
@[simp] theorem State.abandon_timer (s : State) : s.abandon.timer = State.reset.timer := rfl
@[simp] theorem State.abandon_log (s : State) : s.abandon.log = State.reset.log := rfl
@[simp] theorem State.abandon_accepted (s : State) : s.abandon.accepted = [] := rfl
@[simp] theorem State.abandon_responses (s : State) : s.abandon.responses = s.responses := rfl
@[simp] theorem State.abandon_host (s : State) : s.abandon.host = s.host := rfl
@[simp] theorem State.abandon_oracle (s : State) : s.abandon.oracle = s.oracle := rfl
@[simp] theorem State.abandon_dev (s : State) : s.abandon.dev = s.dev.lost := rfl

/-! ### TRACE -/

theorem State.trace_of_log {s t : State} {es : List Event} (h : t.log = es.reverse ++ s.log) :
    t.trace = s.trace ++ es := by
  simp [State.trace, h]

end Sys2Proof.Machine
end

