-- ==== Sys2Proof/Laws/Ops.lean ====
section
/-! SUPPORT. One lemma per shared action sequence: everything it does to the state, as one equation. -/

namespace Sys2Proof.Machine

/-- Everything `WRB`'s actions do (R57). The device takes the byte if it is selected and out of reset (R33). -/
theorem State.writePulse_eq (s : State) (v : Byte) :
    s.writePulse v =
      { s with
        bus := { s.bus with dir := .out, dout := v, wr := false, pulse := false }
        log := (writePulseEvents v).reverse ++ s.log
        seq := s.seq + 5
        timer := 0
        dev := if s.bus.cs && !s.bus.rst then s.dev.receive (.write s.bus.cd v) else s.dev } := by
  obtain ⟨⟨cs, cd, rd, wr, rst, dir, dout, pulse⟩, _⟩ := s
  cases cs <;> cases rst <;> rfl

/-- Everything `RDB`'s actions do (R58): the byte the pins carry passes into `DIN`, and the device meets the read. -/
theorem State.readPulse_eq (s : State) :
    s.readPulse =
      { s with
        bus := { s.bus with dir := .inp, rd := false }
        din := s.pulseByte
        log := (readPulseEvents s.pulseByte).reverse ++ s.log
        seq := s.seq + 5
        timer := 0
        oracle := s.oracle.afterSample
        dev := (if s.bus.cs && !s.bus.rst then s.dev.receive (.read s.bus.cd s.pulseByte) else s.dev).drawn } := by
  obtain ⟨⟨cs, cd, rd, wr, rst, dir, dout, pulse⟩, mirror, row, col, pos, w, din, busy, op, seq, fc, fr, status, rdata,
    timer, log, accepted, responses, host, oracle, dev⟩ := s
  cases cs <;> cases rst <;> cases oracle with
  | device => rfl
  | script bs => cases bs <;> rfl

/-- Everything `SENDCMD`'s actions do (R62): one command transfer if the device is out of reset. -/
theorem State.sendCommand_eq (s : State) (b : Byte) :
    s.sendCommand b =
      { s with
        bus := { s.bus with cs := false, cd := true, dir := .out, dout := b, wr := false, pulse := false }
        log := (sendCmdEvents b).reverse ++ s.log
        seq := s.seq + 8
        timer := 0
        dev := if s.bus.rst then s.dev else s.dev.receive (.write true b) } := by
  unfold State.sendCommand
  rw [State.writePulse_eq]
  obtain ⟨⟨cs, cd, rd, wr, rst, dir, dout, pulse⟩, _⟩ := s
  cases rst <;> rfl

/-- Everything the actions of `WRWORD` do after `W` is written (R63): two data transfers, high byte first. -/
theorem State.sendWord_eq (s : State) :
    s.sendWord =
      { s with
        bus := { s.bus with cs := false, cd := false, dir := .out, dout := lowByte s.w, wr := false, pulse := false }
        log := (wrWordEvents s.w).reverse ++ s.log
        seq := s.seq + 13
        timer := 0
        dev := if s.bus.rst then s.dev
          else (s.dev.receive (.write false (highByte s.w))).receive (.write false (lowByte s.w)) } := by
  unfold State.sendWord
  rw [State.writePulse_eq, State.writePulse_eq]
  obtain ⟨⟨cs, cd, rd, wr, rst, dir, dout, pulse⟩, _⟩ := s
  cases rst <;> rfl

/-- A read pulse leaves the block's side, but for `DIN` and the lines, as it was. -/
theorem State.readPulse_w (s : State) : s.readPulse.w = s.w := by rw [State.readPulse_eq]

/-- The state in which `RDWORD` samples its first byte: selected, in data mode (R64). -/
def State.selected (s : State) : State := (s.setLine .cs true).setLine .cd false

/-- The dummy byte `RDWORD` discards (R64). -/
def State.dummyByte (s : State) : Byte := s.selected.pulseByte

/-- The high byte `RDWORD` reads (R64). -/
def State.highRead (s : State) : Byte := s.selected.readPulse.pulseByte

/-- The low byte `RDWORD` reads (R64). -/
def State.lowRead (s : State) : Byte := s.selected.readPulse.readPulse.pulseByte

/-- What the device is after the three reads of `RDWORD`, each drawing one free value. -/
def Device.readThree (d : Device) (a b c : Byte) : Device :=
  ((((d.receive (.read false a)).drawn.receive (.read false b)).drawn).receive (.read false c)).drawn

/-- Everything `RDWORD`'s actions do (R64): three read pulses, `W <- hi:lo`. -/
theorem State.readWord_eq (s : State) :
    s.readWord =
      { s with
        bus := { s.bus with cs := false, cd := false, rd := false, dir := .inp, pulse := false }
        w := joinWord s.highRead s.lowRead
        din := s.lowRead
        log := (rdWordEvents s.dummyByte s.highRead s.lowRead).reverse ++ s.log
        seq := s.seq + 18
        timer := 0
        oracle := s.oracle.afterSample.afterSample.afterSample
        dev := if s.bus.rst then s.dev.drawn.drawn.drawn
          else s.dev.readThree s.dummyByte s.highRead s.lowRead } := by
  unfold State.readWord State.readHigh State.highRead State.lowRead State.dummyByte
  change ((s.selected.readPulse.readPulse.readPulse.setW _).setLine .cs false) = _
  have h1 : s.selected.readPulse.readPulse.din = s.selected.readPulse.pulseByte := by
    rw [State.readPulse_eq s.selected.readPulse]
  have h2 : s.selected.readPulse.readPulse.readPulse.din = s.selected.readPulse.readPulse.pulseByte := by
    rw [State.readPulse_eq s.selected.readPulse.readPulse]
  have e : ((s.setLine .cs true).setLine .cd false) = s.selected := rfl
  rw [e, h1, h2]
  generalize hb3 : s.selected.readPulse.readPulse.pulseByte = b3
  rw [State.readPulse_eq s.selected.readPulse.readPulse, hb3]
  generalize hb2 : s.selected.readPulse.pulseByte = b2
  rw [State.readPulse_eq s.selected.readPulse, hb2]
  generalize hb1 : s.selected.pulseByte = b1
  rw [State.readPulse_eq s.selected, hb1]
  obtain ⟨⟨cs, cd, rd, wr, rst, dir, dout, pulse⟩, _⟩ := s
  cases rst
  · simp [State.selected, State.setLine, State.setW, State.act, Bus.after, Device.observe, Bus.transfer, readPulseEvents,
      rdWordEvents, Device.readThree]
  · simp [State.selected, State.setLine, State.setW, State.act, Bus.after, Device.observe, Bus.transfer, readPulseEvents,
      rdWordEvents]

/-- The device takes the commands of several bytes. -/
def Device.takeCommands (d : Device) (bs : List Byte) : Device := bs.foldl (fun d b => d.commandWrite b) d

/-- Everything the two column commands do (R47, R73). -/
theorem State.sendColumn_eq (s : State) :
    s.sendColumn =
      { s with
        bus := { s.bus with cs := false, cd := true, dir := .out, dout := encodeCommand (.colHigh (columnHigh s.col)), wr := false, pulse := false }
        log := (commandEvents (columnBytes s.col)).reverse ++ s.log
        seq := s.seq + 16
        timer := 0
        dev := if s.bus.rst then s.dev else s.dev.takeCommands (columnBytes s.col) } := by
  unfold State.sendColumn
  rw [State.sendCommand_eq, State.sendCommand_eq]
  obtain ⟨⟨cs, cd, rd, wr, rst, dir, dout, pulse⟩, _⟩ := s
  cases rst <;> rfl

/-- Everything the two row commands do (R47, R74). -/
theorem State.sendRow_eq (s : State) :
    s.sendRow =
      { s with
        bus := { s.bus with cs := false, cd := true, dir := .out, dout := encodeCommand (.rowHigh (rowHigh s.row)), wr := false, pulse := false }
        log := (commandEvents (rowBytes s.row)).reverse ++ s.log
        seq := s.seq + 16
        timer := 0
        dev := if s.bus.rst then s.dev else s.dev.takeCommands (rowBytes s.row) } := by
  unfold State.sendRow
  rw [State.sendCommand_eq, State.sendCommand_eq]
  obtain ⟨⟨cs, cd, rd, wr, rst, dir, dout, pulse⟩, _⟩ := s
  cases rst <;> rfl

/-- Everything the four address commands do (R24, R75). -/
theorem State.sendAddress_eq (s : State) :
    s.sendAddress =
      { s with
        bus := { s.bus with cs := false, cd := true, dir := .out, dout := encodeCommand (.rowHigh (rowHigh s.row)), wr := false, pulse := false }
        log := (commandEvents (addressBytes s.col s.row)).reverse ++ s.log
        seq := s.seq + 32
        timer := 0
        dev := if s.bus.rst then s.dev else s.dev.takeCommands (addressBytes s.col s.row) } := by
  unfold State.sendAddress
  rw [State.sendRow_eq, State.sendColumn_eq]
  obtain ⟨⟨cs, cd, rd, wr, rst, dir, dout, pulse⟩, _⟩ := s
  cases rst <;> rfl

/-- Everything one round of `FILLSCREEN` does (R76). -/
theorem State.fillWord_eq (s : State) (c r : Nat) :
    s.fillWord c r =
      { s with
        bus := { s.bus with cs := false, cd := false, dir := .out, dout := lowByte s.w, wr := false, pulse := false }
        fc := BitVec.ofNat 7 c
        fr := BitVec.ofNat 8 r
        col := BitVec.ofNat 7 c
        row := BitVec.ofNat 8 r
        log := (fillWordEvents s.w (c, r)).reverse ++ s.log
        seq := 45
        timer := 0
        dev := if s.bus.rst then s.dev
          else ((s.dev.takeCommands (addressBytes (BitVec.ofNat 7 c) (BitVec.ofNat 8 r))).receive
            (.write false (highByte s.w))).receive (.write false (lowByte s.w)) } := by
  unfold State.fillWord
  rw [State.sendWord_eq, State.sendAddress_eq]
  obtain ⟨⟨cs, cd, rd, wr, rst, dir, dout, pulse⟩, _⟩ := s
  cases rst <;> simp [fillWordEvents, State.setRow, State.setCol, State.beginRound]

/-- Addressing a ready device: both halves of the cursor are set and the next data access is in discipline (R36). -/
theorem Device.takeCommands_address {d : Device} (c : BitVec 7) (r : BitVec 8) (hv : d.vb = false) (hp : d.ph.whole) :
    d.takeCommands (addressBytes c r) =
      { d with colLo := columnLow c, colHi := columnHigh c, rowLo := rowLow r, rowHi := rowHigh r, ph := .a4 } := by
  have e : addressBytes c r = [encodeCommand (.colLow (columnLow c)), encodeCommand (.colHigh (columnHigh c)),
      encodeCommand (.rowLow (rowLow r)), encodeCommand (.rowHigh (rowHigh r))] := rfl
  have w1 : Phase.whole .a1 := fun h => by simp
  have w2 : Phase.whole .a2 := fun h => by simp
  have w3 : Phase.whole .a3 := fun h => by simp
  rw [e]
  simp only [Device.takeCommands, List.foldl_cons, List.foldl_nil]
  rw [Device.commandWrite_encode (.colLow (columnLow c)) hv hp]
  rw [Device.commandWrite_encode (.colHigh (columnHigh c)) (by exact hv) (by exact w1)]
  rw [Device.commandWrite_encode (.rowLow (rowLow r)) (by exact hv) (by exact w2)]
  rw [Device.commandWrite_encode (.rowHigh (rowHigh r)) (by exact hv) (by exact w3)]
  rfl

end Sys2Proof.Machine
end

