-- ==== Sys2Proof/Laws/Run.lean ====
section
/-! SUPPORT. What an action sequence does to the lines, to `TRACE` and to the device, said once: `s.Ran t es`. One lemma per
shared sequence, composed by `State.Ran.trans`; and `FILLSCREEN`'s loops as one list of words. -/

namespace Sys2Proof.Machine

/-- From `s` to `t` the events `es` happened, and nothing else reached the lines or the device. -/
def State.Ran (s t : State) (es : List Event) : Prop :=
  t.log = es.reverse ++ s.log ∧ t.bus = s.bus.run es ∧ t.dev = Device.follow s.bus es s.dev

theorem Bus.run_append (b : Bus) (es fs : List Event) : b.run (es ++ fs) = (b.run es).run fs := by
  simp [Bus.run]

theorem Bus.run_cons (b : Bus) (e : Event) (es : List Event) : b.run (e :: es) = (b.after e).run es := rfl

theorem Device.follow_append (b : Bus) (es fs : List Event) (d : Device) :
    Device.follow b (es ++ fs) d = Device.follow (b.run es) fs (Device.follow b es d) := by
  induction es generalizing b d with
  | nil => rfl
  | cons e es ih => exact ih _ _

theorem Bus.disciplined_append (b : Bus) (es fs : List Event) :
    b.disciplined (es ++ fs) = true ↔ b.disciplined es = true ∧ (b.run es).disciplined fs = true := by
  induction es generalizing b with
  | nil =>
    cases fs <;> simp [Bus.disciplined, Bus.run]
    tauto
  | cons e es ih => simp [Bus.disciplined, ih, Bus.run_cons, and_assoc]

theorem State.Ran.refl {s t : State} (h1 : t.log = s.log) (h2 : t.bus = s.bus) (h3 : t.dev = s.dev) : s.Ran t [] := ⟨h1, h2, h3⟩

theorem State.Ran.trans {s t u : State} {es fs : List Event} (h : s.Ran t es) (k : t.Ran u fs) : s.Ran u (es ++ fs) := by
  obtain ⟨h1, h2, h3⟩ := h
  obtain ⟨k1, k2, k3⟩ := k
  refine ⟨by rw [k1, h1]; simp, by rw [k2, h2, Bus.run_append], by rw [k3, h2, h3, Device.follow_append]⟩

theorem State.Ran.writePulse (s : State) (v : Byte) : s.Ran (s.writePulse v) (writePulseEvents v) := ⟨rfl, rfl, rfl⟩
theorem State.Ran.sendCommand (s : State) (b : Byte) : s.Ran (s.sendCommand b) (sendCmdEvents b) := ⟨rfl, rfl, rfl⟩
theorem State.Ran.sendWord (s : State) : s.Ran s.sendWord (wrWordEvents s.w) := ⟨rfl, rfl, rfl⟩
theorem State.Ran.readPulse (s : State) : s.Ran s.readPulse (readPulseEvents s.pulseByte) := by
  rw [State.readPulse_eq]
  refine ⟨rfl, rfl, ?_⟩
  obtain ⟨⟨cs, cd, rd, wr, rst, dir, dout, pulse⟩, _⟩ := s
  cases cs <;> cases rst <;> rfl
theorem State.Ran.readWord (s : State) : s.Ran s.readWord (rdWordEvents s.dummyByte s.highRead s.lowRead) := by
  rw [State.readWord_eq]
  obtain ⟨⟨cs, cd, rd, wr, rst, dir, dout, pulse⟩, _⟩ := s
  refine ⟨rfl, by cases pulse <;> rfl, by cases rst <;> rfl⟩
theorem State.Ran.hold (s : State) (n : Nat) : s.Ran (s.hold n) [.hold n] := ⟨rfl, rfl, rfl⟩
theorem State.Ran.setLine (s : State) (l : Line) (a : Bool) : s.Ran (s.setLine l a) [.line l a] := ⟨rfl, rfl, rfl⟩
theorem State.Ran.setDir (s : State) (d : Dir) : s.Ran (s.setDir d) [.dir d] := ⟨rfl, rfl, rfl⟩
theorem State.Ran.sendColumn (s : State) : s.Ran s.sendColumn (commandEvents (columnBytes s.col)) := by
  have := (State.Ran.sendCommand s (encodeCommand (.colLow (columnLow s.col)))).trans (State.Ran.sendCommand _ (encodeCommand (.colHigh (columnHigh s.col))))
  exact this
theorem State.Ran.sendRow (s : State) : s.Ran s.sendRow (commandEvents (rowBytes s.row)) :=
  (State.Ran.sendCommand s (encodeCommand (.rowLow (rowLow s.row)))).trans (State.Ran.sendCommand _ (encodeCommand (.rowHigh (rowHigh s.row))))
theorem State.sendColumn_row (s : State) : s.sendColumn.row = s.row := by rw [State.sendColumn_eq]
theorem State.Ran.sendAddress (s : State) : s.Ran s.sendAddress (commandEvents (addressBytes s.col s.row)) := by
  have := (State.Ran.sendColumn s).trans (State.Ran.sendRow s.sendColumn)
  rw [State.sendColumn_row] at this
  exact this
theorem State.Ran.fillWord (s : State) (c r : Nat) : s.Ran (s.fillWord c r) (fillWordEvents s.w (c, r)) := by
  rw [State.fillWord_eq]
  refine ⟨rfl, rfl, ?_⟩
  obtain ⟨⟨cs, cd, rd, wr, rst, dir, dout, pulse⟩, _⟩ := s
  cases rst <;> rfl

/-- The words of a list are filled, one round each. -/
def State.fillWords (s : State) (l : List (Nat × Nat)) : State := l.foldl (fun s cr => s.fillWord cr.1 cr.2) s

theorem State.fillWindow_eq_fillWords (s : State) : s.fillWindow = s.fillWords fillOrder := by
  unfold State.fillWindow State.fillWords fillOrder State.fillColumn
  rw [List.foldl_flatMap]
  simp only [List.foldl_map]
  rfl

theorem State.fillWords_w (s : State) (l : List (Nat × Nat)) : (s.fillWords l).w = s.w := by
  unfold State.fillWords
  induction l generalizing s with
  | nil => rfl
  | cons x l ih => rw [List.foldl_cons, ih, State.fillWord_eq]

theorem State.Ran.fillWords (s : State) (l : List (Nat × Nat)) : s.Ran (s.fillWords l) (l.flatMap (fillWordEvents s.w)) := by
  induction l generalizing s with
  | nil => exact ⟨rfl, rfl, rfl⟩
  | cons x l ih =>
    have h := ih (s.fillWord x.1 x.2)
    have : (s.fillWord x.1 x.2).w = s.w := by rw [State.fillWord_eq]
    rw [this] at h
    exact (State.Ran.fillWord s x.1 x.2).trans h

theorem State.Ran.fillWindow (s : State) : s.Ran s.fillWindow (fillEvents s.w) := by
  rw [State.fillWindow_eq_fillWords]; exact State.Ran.fillWords s _

/-- Steps 2 to 6 of `DRAWPIXEL` (R75), with the three bytes its read samples. -/
theorem State.Ran.updatePixel (s : State) (p : Fin 3) (on : Bool) :
    s.Ran (s.updatePixel p on) (drawPixelEvents s.col s.row p on s.sendAddress.dummyByte s.sendAddress.highRead
      s.sendAddress.lowRead) := by
  have h1 := State.Ran.sendAddress s
  have h2 := State.Ran.readWord s.sendAddress
  have h3 : s.sendAddress.readWord.Ran (s.sendAddress.readWord.modifyW p on) [] := ⟨rfl, rfl, rfl⟩
  have h4 := State.Ran.sendAddress (s.sendAddress.readWord.modifyW p on)
  have h5 := State.Ran.sendWord (s.sendAddress.readWord.modifyW p on).sendAddress
  have e1 : (s.sendAddress.readWord.modifyW p on).col = s.col := by
    unfold State.modifyW; rw [State.readWord_eq, State.sendAddress_eq]; rfl
  have e2 : (s.sendAddress.readWord.modifyW p on).row = s.row := by
    unfold State.modifyW; rw [State.readWord_eq, State.sendAddress_eq]; rfl
  have e3 : (s.sendAddress.readWord.modifyW p on).sendAddress.w =
      updateWord (joinWord s.sendAddress.highRead s.sendAddress.lowRead) p on := by
    rw [State.sendAddress_eq (s.sendAddress.readWord.modifyW p on)]
    unfold State.modifyW; rw [State.readWord_eq]; rfl
  rw [e1, e2] at h4
  rw [e3] at h5
  have h := (((h1.trans h2).trans h3).trans h4).trans h5
  rw [List.append_nil] at h
  exact h

/-- Everything steps 2 to 6 of `DRAWPIXEL` do (R75), for the bytes `d`, `hi`, `lo` its read samples. -/
theorem State.updatePixel_eq (s : State) (p : Fin 3) (on : Bool) {d hi lo : Byte}
    (hd : s.sendAddress.dummyByte = d) (hh : s.sendAddress.highRead = hi) (hl : s.sendAddress.lowRead = lo) :
    s.updatePixel p on =
      { s with
        bus := { s.bus with cs := false, cd := false, rd := false, dir := .out, dout := lowByte (updateWord (joinWord hi lo) p on), wr := false, pulse := false }
        w := updateWord (joinWord hi lo) p on
        din := lo
        log := (drawPixelEvents s.col s.row p on d hi lo).reverse ++ s.log
        seq := s.seq + 95
        timer := 0
        oracle := s.oracle.afterSample.afterSample.afterSample
        dev := Device.follow s.bus (drawPixelEvents s.col s.row p on d hi lo) s.dev } := by
  have hdev : (s.updatePixel p on).dev = Device.follow s.bus (drawPixelEvents s.col s.row p on d hi lo) s.dev := by
    subst hd hh hl
    exact (State.Ran.updatePixel s p on).2.2
  rw [← hdev]
  unfold State.updatePixel
  rw [State.sendWord_eq, State.sendAddress_eq (s.sendAddress.readWord.modifyW p on)]
  unfold State.modifyW
  rw [State.readWord_eq, hd, hh, hl, State.sendAddress_eq]
  obtain ⟨⟨cs, cd, rd, wr, rst, dir, dout, pulse⟩, _⟩ := s
  simp [State.setW, drawPixelEvents]

theorem Device.run_append (d : Device) (a b : List Transfer) : d.run (a ++ b) = (d.run a).run b := by simp [Device.run]

theorem Device.run_commands (d : Device) (bs : List Byte) : d.run (commandTransfers bs) = d.takeCommands bs := by
  simp [Device.run, commandTransfers, Device.takeCommands, List.foldl_map]; rfl

/-- One round of `FILLSCREEN`, with the device's part as transfers (R76). -/
theorem State.fillWord_transfers (s : State) (x : Nat × Nat) :
    s.fillWord x.1 x.2 =
      { s with
        bus := { s.bus with cs := false, cd := false, dir := .out, dout := lowByte s.w, wr := false, pulse := false }
        fc := BitVec.ofNat 7 x.1
        fr := BitVec.ofNat 8 x.2
        col := BitVec.ofNat 7 x.1
        row := BitVec.ofNat 8 x.2
        log := (fillWordEvents s.w x).reverse ++ s.log
        seq := 45
        timer := 0
        dev := if s.bus.rst then s.dev else s.dev.run (fillWordTransfers s.w x) } := by
  rw [State.fillWord_eq]
  unfold fillWordTransfers
  rw [Device.run_append, Device.run_commands]
  rfl

/-- Everything the rounds of a list of words do, its last word `x` (R76). -/
theorem State.fillWords_snoc (s : State) (l : List (Nat × Nat)) (x : Nat × Nat) :
    s.fillWords (l ++ [x]) =
      { s with
        bus := { s.bus with cs := false, cd := false, dir := .out, dout := lowByte s.w, wr := false, pulse := false }
        fc := BitVec.ofNat 7 x.1
        fr := BitVec.ofNat 8 x.2
        col := BitVec.ofNat 7 x.1
        row := BitVec.ofNat 8 x.2
        log := ((l ++ [x]).flatMap (fillWordEvents s.w)).reverse ++ s.log
        seq := 45
        timer := 0
        dev := if s.bus.rst then s.dev else s.dev.run ((l ++ [x]).flatMap (fillWordTransfers s.w)) } := by
  induction l generalizing s with
  | nil => show s.fillWord x.1 x.2 = _; rw [State.fillWord_transfers]; simp
  | cons y l ih =>
    show (s.fillWord y.1 y.2).fillWords (l ++ [x]) = _
    rw [ih, State.fillWord_transfers]
    cases hr : s.bus.rst <;> simp [hr, Device.run_append, List.flatMap_append, List.reverse_append, List.append_assoc]

/-- The last word `FILLSCREEN` writes is (159, 90) (R76e). -/
theorem fillOrder_last :
    fillOrder = ((List.range 53).flatMap (fun k => (List.range 160).map (fun r => (37 + k, r))) ++
      (List.range 159).map (fun r => (90, r))) ++ [(90, 159)] := by
  unfold fillOrder
  rw [List.range_succ (n := 53), List.flatMap_append, List.append_assoc]
  congr 1

theorem mem_fillOrder (x : Nat × Nat) : x ∈ fillOrder ↔ 37 ≤ x.1 ∧ x.1 ≤ 90 ∧ x.2 ≤ 159 := by
  obtain ⟨c, r⟩ := x
  simp only [fillOrder, List.mem_flatMap, List.mem_range, List.mem_map, Prod.mk.injEq]
  constructor
  · rintro ⟨k, hk, r', hr, h1, h2⟩; omega
  · rintro ⟨h1, h2, h3⟩; exact ⟨c - 37, by omega, r, by omega, by omega, rfl⟩

/-- What no action sequence touches: the host's side, `OP`, `RDATA`, `MIRROR`, `STATUS`, `BUSY`, the record of
the run. -/
def State.Kept (s t : State) : Prop :=
  t.host = s.host ∧ t.responses = s.responses ∧ t.op = s.op ∧ t.rdata = s.rdata ∧ t.mirror = s.mirror ∧
  t.status = s.status ∧ t.busy = s.busy ∧ t.accepted = s.accepted

theorem State.Kept.trans {s t u : State} (h : s.Kept t) (k : t.Kept u) : s.Kept u := by
  obtain ⟨h1, h2, h3, h4, h5, h6, h7, h8⟩ := h
  obtain ⟨k1, k2, k3, k4, k5, k6, k7, k8⟩ := k
  exact ⟨k1.trans h1, k2.trans h2, k3.trans h3, k4.trans h4, k5.trans h5, k6.trans h6, k7.trans h7, k8.trans h8⟩

theorem State.Kept.writePulse (s : State) (v : Byte) : s.Kept (s.writePulse v) := by
  rw [State.writePulse_eq]; exact ⟨rfl, rfl, rfl, rfl, rfl, rfl, rfl, rfl⟩
theorem State.Kept.readPulse (s : State) : s.Kept s.readPulse := by
  rw [State.readPulse_eq]; exact ⟨rfl, rfl, rfl, rfl, rfl, rfl, rfl, rfl⟩
theorem State.Kept.sendCommand (s : State) (b : Byte) : s.Kept (s.sendCommand b) := by
  rw [State.sendCommand_eq]; exact ⟨rfl, rfl, rfl, rfl, rfl, rfl, rfl, rfl⟩
theorem State.Kept.writeWord (s : State) (v : Word) : s.Kept (s.writeWord v) := by
  unfold State.writeWord; rw [State.sendWord_eq]; exact ⟨rfl, rfl, rfl, rfl, rfl, rfl, rfl, rfl⟩
theorem State.Kept.readWord (s : State) : s.Kept s.readWord := by
  rw [State.readWord_eq]; exact ⟨rfl, rfl, rfl, rfl, rfl, rfl, rfl, rfl⟩
theorem State.Kept.sendColumn (s : State) : s.Kept s.sendColumn := by
  rw [State.sendColumn_eq]; exact ⟨rfl, rfl, rfl, rfl, rfl, rfl, rfl, rfl⟩
theorem State.Kept.sendRow (s : State) : s.Kept s.sendRow := by
  rw [State.sendRow_eq]; exact ⟨rfl, rfl, rfl, rfl, rfl, rfl, rfl, rfl⟩
theorem State.Kept.updatePixel (s : State) (p : Fin 3) (on : Bool) : s.Kept (s.updatePixel p on) := by
  rw [State.updatePixel_eq s p on rfl rfl rfl]; exact ⟨rfl, rfl, rfl, rfl, rfl, rfl, rfl, rfl⟩
theorem State.Kept.fillWords (s : State) (l : List (Nat × Nat)) : s.Kept (s.fillWords l) := by
  induction l generalizing s with
  | nil => exact ⟨rfl, rfl, rfl, rfl, rfl, rfl, rfl, rfl⟩
  | cons x l ih =>
    refine State.Kept.trans (t := s.fillWord x.1 x.2) ?_ (ih _)
    rw [State.fillWord_eq]; exact ⟨rfl, rfl, rfl, rfl, rfl, rfl, rfl, rfl⟩
theorem State.Kept.fillWindow (s : State) : s.Kept s.fillWindow := by
  rw [State.fillWindow_eq_fillWords]; exact State.Kept.fillWords s _

end Sys2Proof.Machine
end

