-- ==== Sys2Proof/Laws/Access.lean ====
section
/-! SUPPORT. Addressed accesses of the reference device model (20_memory.md R36 to R38): what an address, two data writes and
three data reads leave, said once. -/

namespace Sys2Proof.Machine

theorem highByte_joinWord (h l : Byte) : highByte (joinWord h l) = h := by
  apply BitVec.eq_of_getLsbD_eq
  intro i hi
  have e := BitVec.getLsbD_append (x := h) (y := l) (i := 8 + i)
  simp only [highByte, joinWord, BitVec.getLsbD_extractLsb']
  rw [show (HAppend.hAppend h l : Word).getLsbD (8 + i) = _ from e]
  simp [hi]

theorem lowByte_joinWord (h l : Byte) : lowByte (joinWord h l) = l := by
  apply BitVec.eq_of_getLsbD_eq
  intro i hi
  have e := BitVec.getLsbD_append (x := h) (y := l) (i := 0 + i)
  simp only [lowByte, joinWord, BitVec.getLsbD_extractLsb']
  rw [show (HAppend.hAppend h l : Word).getLsbD (0 + i) = _ from e]
  simp [hi]

theorem joinWord_bytes (w : Word) : joinWord (highByte w) (lowByte w) = w := by
  show w.extractLsb' 8 8 ++ w.extractLsb' 0 8 = w
  ext i hi; simp; grind

theorem Memory.inWindow_iff (r c : Nat) : Memory.inWindow r c = true ↔ r ≤ 159 ∧ 37 ≤ c ∧ c ≤ 90 := decide_eq_true_iff

/-- RAM that holds `d`'s bytes and one more word: that word. -/
theorem Device.word_of_store {d e : Device} {r c : Nat} {h l : Byte} (hm : e.mem = d.mem.writeWord r c h l) :
    e.word r c = joinWord h l := by
  simp [Device.word, Device.highAt, Device.lowAt, Device.byteAt, hm]

/-- RAM that holds `d`'s bytes and one more word: every other byte. -/
theorem Device.sameRamBut_of_store {d e : Device} {r c : Nat} {h l : Byte} (hm : e.mem = d.mem.writeWord r c h l)
    (he : e.epoch = d.epoch) : d.sameRamBut e r c := by
  intro a h1 h2
  simp [Device.byteAt, hm, he, Memory.read_writeWord_other _ _ _ _ _ h1 h2]

theorem Device.sameRam_of_eq {d e : Device} (hm : e.mem = d.mem) (he : e.epoch = d.epoch) : d.sameRam e := by
  intro a; simp [Device.byteAt, hm, he]

/-- A device that has just been addressed at (r, c), with the RAM of `d` (R36). -/
structure Device.AddressedFrom (d e : Device) (r c : Nat) : Prop where
  mem : e.mem = d.mem
  epoch : e.epoch = d.epoch
  row : e.crow.toNat = r
  col : e.ccol.toNat = c
  ph : e.ph = .a4
  vb : e.vb = false

/-- The four address commands address a ready device (R36). -/
theorem Device.addressed (d : Device) (c : BitVec 7) (r : BitVec 8) (hv : d.vb = false) (hp : d.ph.whole) :
    d.AddressedFrom (d.takeCommands (addressBytes c r)) r.toNat c.toNat := by
  rw [Device.takeCommands_address c r hv hp]
  have h1 : rowHigh r ++ rowLow r = r := Device.setRow_crow d r
  have h2 : columnHigh c ++ columnLow c = c := Device.setCol_ccol d c
  refine ⟨rfl, rfl, ?_, ?_, rfl, hv⟩
  · show (rowHigh r ++ rowLow r).toNat = _; rw [h1]
  · show (columnHigh c ++ columnLow c).toNat = _; rw [h2]

/-- The first data write of a word, right after an address or a completed word (R37a). -/
theorem Device.beginWord (d : Device) (h : Byte) (hp : d.ph = .a4 ∨ d.ph = .n) :
    ∃ a, d.receive (.write false h) = { d with ph := .w1 h, access := a } ∧ (d.ph = .a4 → a = .addressed) := by
  rcases hp with hp | hp
  · exact ⟨.addressed, by simp [Device.receive, Device.dataWrite, hp], fun _ => rfl⟩
  · exact ⟨d.access, by simp [Device.receive, Device.dataWrite, hp], fun h4 => by simp [hp] at h4⟩

/-- Two data writes after an address or a completed word store a word at the cursor and move it on (R37); right after an
address the word is then known (R116). -/
theorem Device.writeTwo (d : Device) (h l : Byte) (hp : d.ph = .a4 ∨ d.ph = .n) (hw : d.inWindow = true) :
    ∃ e, (d.receive (.write false h)).receive (.write false l) = e ∧
      e.mem = d.mem.writeWord d.crow.toNat d.ccol.toNat h l ∧ e.epoch = d.epoch ∧ e.crow = d.crow ∧
      e.ccol = d.ccol + 1 ∧ e.ph = .n ∧ e.vb = d.vb ∧ (d.ph = .a4 → d.cursorAddr ∈ e.written) := by
  obtain ⟨a, h1, ha⟩ := d.beginWord h hp
  have hw' : ({ d with ph := .w1 h, access := a } : Device).inWindow = true := hw
  have h2 : ({ d with ph := .w1 h, access := a } : Device).receive (.write false l) =
      { ({ d with ph := .w1 h, access := a } : Device).writeWord h l |>.advance with ph := .n, access := a.next } := by
    simp [Device.receive, Device.dataWrite, hw']
  refine ⟨_, rfl, ?_⟩
  rw [h1, h2]
  refine ⟨Device.writeWord_mem _ h l, Device.writeWord_epoch _ h l, Device.writeWord_crow _ h l, ?_, rfl,
    Device.writeWord_vb _ h l, fun h4 => Device.cursorAddr_mem_writeWord (ha h4) h l⟩
  have := Device.advance_ccol (({ d with ph := .w1 h, access := a } : Device).writeWord h l)
  rw [Device.writeWord_ccol] at this
  exact this

/-- `RDWORD` from an addressed device, under the device model (R38): its bytes, and where the device stands after it. -/
theorem State.readWord_addressed (s : State) (hr : s.bus.rst = false) (hp : s.dev.ph = .a4)
    (hw : s.dev.inWindow = true) (ho : s.oracle = .device) :
    s.highRead = s.dev.highAt s.dev.crow.toNat s.dev.ccol.toNat ∧
    s.lowRead = s.dev.lowAt s.dev.crow.toNat s.dev.ccol.toNat ∧
    s.readWord.dev.mem = s.dev.mem ∧ s.readWord.dev.epoch = s.dev.epoch ∧ s.readWord.dev.crow = s.dev.crow ∧
    s.readWord.dev.ccol = s.dev.ccol + 1 ∧ s.readWord.dev.ph = .n ∧ s.readWord.dev.vb = s.dev.vb := by
  obtain ⟨⟨cs, cd, rd, wr, rst, dir, dout, pulse⟩, mirror, row, col, pos, w, din, busy, op, seq, fc, fr, status, rdata,
    timer, log, accepted, responses, host, oracle, ⟨mem, epoch, rowHi, rowLo, colHi, colLo, vb, ph, settings, draws, written, access⟩⟩ := s
  simp only at hr hp ho
  subst hr hp ho
  have h1 : ∀ ph dr ac, ({ mem := mem, epoch := epoch, rowHi := rowHi, rowLo := rowLo, colHi := colHi, colLo := colLo, vb := vb, ph := ph, settings := settings, draws := dr, written := written, access := ac } : Device).inWindow = true := fun _ _ _ => hw
  refine ⟨?_, ?_, ?_⟩
  · unfold State.highRead
    rw [State.readPulse_eq]
    simp [State.selected, State.pulseByte, Device.receive, Device.dataRead, Device.drawn, Oracle.afterSample,
      State.setLine, State.act, Bus.after, Device.observe, Bus.transfer, Device.readValue, h1]
    rfl
  · unfold State.lowRead
    rw [State.readPulse_eq, State.readPulse_eq]
    simp [State.selected, State.pulseByte, Device.receive, Device.dataRead, Device.drawn, Oracle.afterSample,
      State.setLine, State.act, Bus.after, Device.observe, Bus.transfer, Device.readValue, h1]
    rfl
  · rw [State.readWord_eq]
    simp only [Device.readThree, Device.receive, Device.dataRead, Device.drawn]
    exact ⟨rfl, rfl, rfl, Device.advance_ccol _, rfl, rfl⟩

/-- Losing a half-written word changes at most the word at the cursor, and neither cursor nor `vb` (R36). -/
theorem Device.loseHalfWord_frame (d : Device) :
    d.sameRamBut d.loseHalfWord d.crow.toNat d.ccol.toNat ∧ d.loseHalfWord.crow = d.crow ∧
    d.loseHalfWord.ccol = d.ccol ∧ d.loseHalfWord.vb = d.vb ∧ d.loseHalfWord.ph = d.ph ∧
    d.draws ≤ d.loseHalfWord.draws := by
  unfold Device.loseHalfWord
  split
  · split
    · exact ⟨Device.sameRamBut_of_store rfl rfl, rfl, rfl, rfl, rfl, Nat.le_add_right _ _⟩
    · exact ⟨fun _ _ _ => rfl, rfl, rfl, rfl, rfl, Nat.le_refl _⟩
  all_goals exact ⟨fun _ _ _ => rfl, rfl, rfl, rfl, rfl, Nat.le_refl _⟩

end Sys2Proof.Machine
end

