-- ==== Sys2Proof/Laws/Discipline.lean ====
section
/-! SUPPORT. Each action sequence keeps the strobe discipline (10_state.md R12): from a quiet bus it stays in order at every
moment and ends quiet. -/

namespace Sys2Proof.Machine

/-- From a quiet bus the events keep the discipline and end quiet. -/
def Bus.Keeps (b : Bus) (es : List Event) : Prop := b.quiet → b.disciplined es = true ∧ (b.run es).quiet

theorem Bus.Keeps.append {b : Bus} {es fs : List Event} (h : b.Keeps es) (k : (b.run es).Keeps fs) :
    b.Keeps (es ++ fs) := by
  intro q
  obtain ⟨h1, h2⟩ := h q
  obtain ⟨k1, k2⟩ := k h2
  exact ⟨(Bus.disciplined_append _ _ _).mpr ⟨h1, k1⟩, by rw [Bus.run_append]; exact k2⟩

theorem Bus.Keeps.none (b : Bus) : b.Keeps [] := by
  obtain ⟨cs, cd, rd, wr, rst, dir, dout, pulse⟩ := b
  rintro ⟨h1, h2, h3⟩
  simp only at h1 h2 h3; subst h1 h2 h3
  simp [Bus.disciplined, Bus.orderly, Bus.run, Bus.quiet]

/-- One event that is no strobe. -/
theorem Bus.Keeps.one (b : Bus) (e : Event) (h : ∀ a, e ≠ .line .rd a) (h' : ∀ a, e ≠ .line .wr a) : b.Keeps [e] := by
  obtain ⟨cs, cd, rd, wr, rst, dir, dout, pulse⟩ := b
  rintro ⟨h1, h2, h3⟩
  simp only at h1 h2 h3; subst h1 h2 h3
  cases e with
  | line l a => cases l <;> simp at h h' <;> simp [Bus.disciplined, Bus.orderly, Bus.after, Bus.run, Bus.quiet]
  | _ => simp [Bus.disciplined, Bus.orderly, Bus.after, Bus.run, Bus.quiet]

theorem Bus.Keeps.line (b : Bus) (l : Line) (a : Bool) (h1 : l ≠ .rd) (h2 : l ≠ .wr) : b.Keeps [.line l a] :=
  Bus.Keeps.one b _ (by simp [h1]) (by simp [h2])

theorem Bus.Keeps.writePulse (b : Bus) (v : Byte) : b.Keeps (writePulseEvents v) := by
  obtain ⟨cs, cd, rd, wr, rst, dir, dout, pulse⟩ := b
  rintro ⟨h1, h2, h3⟩
  simp only at h1 h2 h3; subst h1 h2 h3
  simp [writePulseEvents, Bus.disciplined, Bus.orderly, Bus.after, Bus.run, Bus.quiet]

theorem Bus.Keeps.readPulse (b : Bus) (v : Byte) : b.Keeps (readPulseEvents v) := by
  obtain ⟨cs, cd, rd, wr, rst, dir, dout, pulse⟩ := b
  rintro ⟨h1, h2, h3⟩
  simp only at h1 h2 h3; subst h1 h2 h3
  simp [readPulseEvents, Bus.disciplined, Bus.orderly, Bus.after, Bus.run, Bus.quiet]

theorem Bus.Keeps.sendCmd (b : Bus) (v : Byte) : b.Keeps (sendCmdEvents v) :=
  (((Bus.Keeps.line b .cs true (by simp) (by simp)).append (Bus.Keeps.line _ .cd true (by simp) (by simp))).append
    (Bus.Keeps.writePulse _ v)).append (Bus.Keeps.line _ .cs false (by simp) (by simp))

theorem Bus.Keeps.wrWord (b : Bus) (v : Word) : b.Keeps (wrWordEvents v) :=
  ((((Bus.Keeps.line b .cs true (by simp) (by simp)).append (Bus.Keeps.line _ .cd false (by simp) (by simp))).append
    (Bus.Keeps.writePulse _ (highByte v))).append (Bus.Keeps.writePulse _ (lowByte v))).append
    (Bus.Keeps.line _ .cs false (by simp) (by simp))

theorem Bus.Keeps.rdWord (b : Bus) (d h l : Byte) : b.Keeps (rdWordEvents d h l) :=
  (((((Bus.Keeps.line b .cs true (by simp) (by simp)).append (Bus.Keeps.line _ .cd false (by simp) (by simp))).append
    (Bus.Keeps.readPulse _ d)).append (Bus.Keeps.readPulse _ h)).append (Bus.Keeps.readPulse _ l)).append
    (Bus.Keeps.line _ .cs false (by simp) (by simp))

theorem Bus.Keeps.commands (b : Bus) (bs : List Byte) : b.Keeps (commandEvents bs) := by
  induction bs generalizing b with
  | nil => exact Bus.Keeps.none b
  | cons x bs ih => exact (Bus.Keeps.sendCmd b x).append (ih _)

theorem Bus.Keeps.fillWords (b : Bus) (v : Word) (l : List (Nat × Nat)) : b.Keeps (l.flatMap (fillWordEvents v)) := by
  induction l generalizing b with
  | nil => exact Bus.Keeps.none b
  | cons x l ih => exact ((Bus.Keeps.commands b _).append (Bus.Keeps.wrWord _ v)).append (ih _)

theorem Bus.Keeps.drawPixel (b : Bus) (c : BitVec 7) (r : BitVec 8) (p : Fin 3) (on : Bool) (d h l : Byte) :
    b.Keeps (drawPixelEvents c r p on d h l) :=
  (((Bus.Keeps.commands b _).append (Bus.Keeps.rdWord _ d h l)).append (Bus.Keeps.commands _ _)).append
    (Bus.Keeps.wrWord _ _)

/-- A list of events keeps the RAM's canonical form. -/
theorem Device.follow_wf (b : Bus) (es : List Event) {d : Device} (h : Memory.wf d.mem) :
    Memory.wf (Device.follow b es d).mem := by
  induction es generalizing b d with
  | nil => exact h
  | cons e es ih =>
    apply ih
    cases e <;> exact Device.observe_wf _ _ h

end Sys2Proof.Machine
end

