-- ==== Sys2Proof/Laws/Encoding.lean ====
section
/-! SUPPORT. The fields of a request word written by the encoder (30_encoding.md R41, R53), and of a word cut into its two
bytes (R48). -/

namespace Sys2Proof

@[simp] theorem opcField_requestWord (opc a b c : Byte) : opcField (requestWord opc a b c) = opc := by
  unfold opcField requestWord; ext i hi; simp; grind

@[simp] theorem aField_requestWord (opc a b c : Byte) : aField (requestWord opc a b c) = a := by
  unfold aField requestWord; ext i hi; simp; grind

@[simp] theorem bField_requestWord (opc a b c : Byte) : bField (requestWord opc a b c) = b := by
  unfold bField requestWord; ext i hi; simp; grind

@[simp] theorem cField_requestWord (opc a b c : Byte) : cField (requestWord opc a b c) = c := by
  unfold cField requestWord; ext i hi; simp; grind

@[simp] theorem bcField_requestWord (opc a b c : Byte) : bcField (requestWord opc a b c) = b ++ c := by
  unfold bcField requestWord; ext i hi; simp; grind

/-- A word is its high byte and its low byte (R48). -/
theorem word_of_bytes (v : Word) : v.extractLsb' 8 8 ++ v.extractLsb' 0 8 = v := by
  ext i hi; simp; grind

/-- A request word is its four bytes (R41). -/
theorem requestWord_fields (w : Request) : requestWord (opcField w) (aField w) (bField w) (cField w) = w := by
  unfold requestWord opcField aField bField cField; ext i hi; simp; grind

/-- Masking a request word masks its bytes. -/
theorem requestWord_and (a b c d a' b' c' d' : Byte) :
    requestWord a b c d &&& requestWord a' b' c' d' = requestWord (a &&& a') (b &&& b') (c &&& c') (d &&& d') := by
  unfold requestWord
  rw [← BitVec.and_append, ← BitVec.and_append, ← BitVec.and_append]

/-- Masking with all ones keeps a byte. -/
theorem byte_and_ones (v : Byte) : v &&& 0xFF#8 = v := by revert v; decide

/-- A request word is canonical when its code is legal and its bytes have no unused bit set (R53). -/
theorem canonicalRequest_requestWord (opc a b c : Byte) (h1 : operationCodes.contains opc = true)
    (h2 : requestWord opc a b c &&& usedBits opc = requestWord opc a b c) :
    WellFormed.canonicalRequest (requestWord opc a b c) = true := by
  simp [WellFormed.canonicalRequest, WellFormed.legalRequest, h2]
  simpa using h1

end Sys2Proof
end

