-- ==== Sys2Proof/Laws/PerInstr.lean ====
section
/-! SUPPORT. Per instruction: what the encoder writes is a well-formed encoding, a canonical request word or a listed command
byte (30_encoding.md R46, R53). -/

namespace Sys2Proof.Laws.CanonicalEncoding

/-- The instruction's encoding is well formed. -/
def Statement (i : Instr) : Prop := (encode i).wellFormed = true

theorem setDir (o : Bool) : Statement (.setDir o) := by cases o <;> rfl
theorem wrb (v : Byte) : Statement (.wrb v) := by revert v; unfold Statement; decide
theorem rdb : Statement .rdb := rfl
theorem selChip (a : Bool) : Statement (.selChip a) := by cases a <;> rfl
theorem selCmd (k : Bool) : Statement (.selCmd k) := by cases k <;> rfl
theorem setRst (a : Bool) : Statement (.setRst a) := by cases a <;> rfl
theorem sendCmd (b : Byte) : Statement (.sendCmd b) := by revert b; unfold Statement; decide
theorem wrWord (v : Word) : Statement (.wrWord v) := by
  refine canonicalRequest_requestWord _ _ _ _ (by decide) ?_
  show requestWord _ _ _ _ &&& requestWord 0xFF#8 0x00#8 0xFF#8 0xFF#8 = _
  rw [requestWord_and, byte_and_ones (v.extractLsb' 8 8), byte_and_ones (v.extractLsb' 0 8)]; rfl
theorem rdWord : Statement .rdWord := rfl
theorem setCol (c : Byte) : Statement (.setCol c) := by revert c; unfold Statement; decide
theorem setRow (r : Byte) : Statement (.setRow r) := by revert r; unfold Statement; decide
theorem drawPixel (x y : Byte) (on : Bool) : Statement (.drawPixel x y on) := by
  refine canonicalRequest_requestWord _ _ _ _ (by decide) ?_
  show requestWord _ _ _ _ &&& requestWord 0xFF#8 0xFF#8 0xFF#8 0x01#8 = _
  rw [requestWord_and, byte_and_ones x, byte_and_ones y]; cases on <;> rfl
theorem fillScreen (on : Bool) : Statement (.fillScreen on) := by cases on <;> rfl
theorem drawTriplet (p1 p2 p3 : Bool) : Statement (.drawTriplet p1 p2 p3) := by
  cases p1 <;> cases p2 <;> cases p3 <;> rfl
theorem setVbias (v : Byte) : Statement (.setVbias v) := by revert v; unfold Statement; decide
theorem setInv (e : Bool) : Statement (.setInv e) := by cases e <;> rfl
theorem setDispEn (s : Bool) : Statement (.setDispEn s) := by cases s <;> rfl
theorem setMap (mx my : Bool) : Statement (.setMap mx my) := by cases mx <;> cases my <;> rfl
theorem setColorPat : Statement .setColorPat := rfl
theorem setColorMode : Statement .setColorMode := rfl
theorem sysReset : Statement .sysReset := rfl
theorem cmdColLow (n : BitVec 4) : Statement (.cmdColLow n) := by revert n; unfold Statement; decide
theorem cmdColHigh (n : BitVec 3) : Statement (.cmdColHigh n) := by revert n; unfold Statement; decide
theorem cmdRowLow (n : BitVec 4) : Statement (.cmdRowLow n) := by revert n; unfold Statement; decide
theorem cmdRowHigh (n : BitVec 4) : Statement (.cmdRowHigh n) := by revert n; unfold Statement; decide
theorem cmdVbias : Statement .cmdVbias := rfl
theorem cmdInverse (e : Bool) : Statement (.cmdInverse e) := by cases e <;> rfl
theorem cmdDispen (s : Bool) : Statement (.cmdDispen s) := by cases s <;> rfl
theorem cmdMapping (mx my : Bool) : Statement (.cmdMapping mx my) := by cases mx <;> cases my <;> rfl
theorem cmdColorPat : Statement .cmdColorPat := rfl
theorem cmdColorMode : Statement .cmdColorMode := rfl
theorem cmdSysReset : Statement .cmdSysReset := rfl

end Sys2Proof.Laws.CanonicalEncoding
end

