-- ==== Sys2Proof/Tests/Slice0.lean ====
section
/-! SUPPORT. Tests: words written out from the encodings, ill-formed words refused, one or two steps per instruction with
results from spec/95_test_vectors.md, and for each obligation with hypotheses a witness that meets them. -/

namespace Sys2Proof.Tests

open Sys2Proof Sys2Proof.Machine

/-! ## Decoding: one word per row, written out bit by bit from 30_encoding.md R42, R43, R46 -/

theorem test_decode_setDir : decodeTableWord 32 0b00000001_00000000_00000000_00000001 = some (.setDir true) := by decide
theorem test_decode_wrb : decodeTableWord 32 0b00000010_00000000_00000000_10100101 = some (.wrb 0xA5#8) := by decide
theorem test_decode_rdb : decodeTableWord 32 0b00000011_00000000_00000000_00000000 = some (.rdb) := by decide
theorem test_decode_selChip : decodeTableWord 32 0b00000100_00000000_00000000_00000001 = some (.selChip true) := by decide
theorem test_decode_selCmd : decodeTableWord 32 0b00000101_00000000_00000000_00000000 = some (.selCmd false) := by decide
theorem test_decode_setRst : decodeTableWord 32 0b00000110_00000000_00000000_00000001 = some (.setRst true) := by decide
theorem test_decode_sendCmd : decodeTableWord 32 0b00010000_00000000_00000000_00000110 = some (.sendCmd 0x06#8) := by decide
theorem test_decode_wrWord : decodeTableWord 32 0b00010001_00000000_10101011_11001101 = some (.wrWord 0xABCD#16) := by decide
theorem test_decode_rdWord : decodeTableWord 32 0b00010010_00000000_00000000_00000000 = some (.rdWord) := by decide
theorem test_decode_setCol : decodeTableWord 32 0b00100000_00000000_00000000_00100110 = some (.setCol 38#8) := by decide
theorem test_decode_setRow : decodeTableWord 32 0b00100001_00000000_00000000_10011111 = some (.setRow 159#8) := by decide
theorem test_decode_drawPixel : decodeTableWord 32 0b00100010_00000101_01100100_00000001 = some (.drawPixel 5#8 100#8 true) := by decide
theorem test_decode_fillScreen : decodeTableWord 32 0b00100011_00000000_00000000_00000001 = some (.fillScreen true) := by decide
theorem test_decode_drawTriplet : decodeTableWord 32 0b00100100_00000000_00000000_00000110 = some (.drawTriplet true true false) := by decide
theorem test_decode_setVbias : decodeTableWord 32 0b00110000_00000000_00000000_01000000 = some (.setVbias 0x40#8) := by decide
theorem test_decode_setInv : decodeTableWord 32 0b00110001_00000000_00000000_00000001 = some (.setInv true) := by decide
theorem test_decode_setDispEn : decodeTableWord 32 0b00110010_00000000_00000000_00000001 = some (.setDispEn true) := by decide
theorem test_decode_setMap : decodeTableWord 32 0b00110011_00000000_00000000_00000010 = some (.setMap false true) := by decide
theorem test_decode_setColorPat : decodeTableWord 32 0b00110100_00000000_00000000_00000000 = some (.setColorPat) := by decide
theorem test_decode_setColorMode : decodeTableWord 32 0b00110101_00000000_00000000_00000000 = some (.setColorMode) := by decide
theorem test_decode_sysReset : decodeTableWord 32 0b00110110_00000000_00000000_00000000 = some (.sysReset) := by decide
theorem test_decode_cmdColLow : decodeTableWord 8 0b00000110 = some (.cmdColLow 6#4) := by decide
theorem test_decode_cmdColHigh : decodeTableWord 8 0b00010101 = some (.cmdColHigh 5#3) := by decide
theorem test_decode_cmdRowLow : decodeTableWord 8 0b01101111 = some (.cmdRowLow 15#4) := by decide
theorem test_decode_cmdRowHigh : decodeTableWord 8 0b01111001 = some (.cmdRowHigh 9#4) := by decide
theorem test_decode_cmdVbias : decodeTableWord 8 0b10000001 = some (.cmdVbias) := by decide
theorem test_decode_cmdInverse : decodeTableWord 8 0b10100111 = some (.cmdInverse true) := by decide
theorem test_decode_cmdDispen : decodeTableWord 8 0b10101101 = some (.cmdDispen true) := by decide
theorem test_decode_cmdMapping : decodeTableWord 8 0b11000010 = some (.cmdMapping false true) := by decide
theorem test_decode_cmdColorPat : decodeTableWord 8 0b11010001 = some (.cmdColorPat) := by decide
theorem test_decode_cmdColorMode : decodeTableWord 8 0b11010100 = some (.cmdColorMode) := by decide
theorem test_decode_cmdSysReset : decodeTableWord 8 0b11100010 = some (.cmdSysReset) := by decide

/-- Unused operand bits are ignored (V1.6, V6.8, V7). -/
theorem test_decode_junk : decodeTableWord 32 0x01ABCDFE = some (.setDir false) ∧
    decodeTableWord 32 0x24FFFFFD = some (.drawTriplet true false true) ∧
    decodeTableWord 32 0x330000FF = some (.setMap true true) := by decide

/-! ## Well-formed words: one ill-formed term per check (R50, R53, R52) -/

/-- A code outside R42 is refused by the check and by the decoder, by name. -/
theorem test_wf_illegalOpc : WellFormed.legalRequest 0x37000000#32 = false ∧
    decodeRequest 0x37000000#32 = .error (.illegalOpc 0x37#8) := by decide

/-- A legal request with an unused bit set is no canonical word. -/
theorem test_wf_unusedBit : WellFormed.canonicalRequest 0x01ABCDFE#32 = false ∧
    WellFormed.legalRequest 0x01ABCDFE#32 = true ∧ WellFormed.canonicalRequest 0x01000000#32 = true := by decide

/-- A byte outside R46 is no listed command. -/
theorem test_wf_unlistedCommand : WellFormed.listedCommand 0x2F#8 = false ∧
    decodeCommand 0x2F#8 = .error (.unlistedCommand 0x2F#8) := by decide

/-- The check on an encoding refuses both kinds. -/
theorem test_wf_encoded : (Encoded.request 0x37000000#32).wellFormed = false ∧
    (Encoded.request 0x01ABCDFE#32).wellFormed = false ∧ (Encoded.command 0xC8#8).wellFormed = false := by decide

/-- A width no row has is refused by name. -/
theorem test_wf_width : decodeTableWord 16 0x01 = none ∧ tableWord 16 1 = .error (.unknownWidth 16) := by decide

/-! ## Pure functions (V2, V3) -/

/-- V2: 254 + 2 does not wrap. -/
theorem test_column_noWrap : pixelColumn 254#8 true = 122 ∧ (subPosition 254#8 true).val = 1 ∧
    pixelColumn 4#8 true = 39 ∧ (subPosition 4#8 true).val = 2 := by decide

/-- V3: a partial pattern outside the field is kept. -/
theorem test_update_partial : updateWord 0x1234#16 0 true = 0xFA34#16 ∧ updateWord 0xA5A5#16 1 false = 0xA005#16 ∧
    updateWord 0x0410#16 2 true = 0x041F#16 := by decide

/-! ## One step per instruction -/

/-- A quiet bus with these levels. -/
def busWith (cs cd rst : Bool) (dir : Dir) : Bus :=
  { cs := cs, cd := cd, rd := false, wr := false, rst := rst, dir := dir, dout := 0, pulse := false }

/-- The state after reset with this bus. -/
def onBus (b : Bus) : State := { State.reset with bus := b }

/-- The state after reset with an environment that answers these bytes. -/
def answering (bs : List Byte) : State := { State.reset with oracle := .script bs }

/-- The state after reset with this mapping mode. -/
def mirrored (mx my : Bool) : State := { State.reset with mirror := { mx := mx, my := my } }

/-- A device addressed at (row 7, column 40), with one word known there. -/
def device740 : Device :=
  { Device.initial with mem := [(1872, 0x07#8), (1873, 0xE0#8)], written := [1872], rowHi := 0, rowLo := 7, colHi := 2, colLo := 8, ph := .a4 }

/-- The state after reset with that device. -/
def at740 : State := { State.reset with dev := device740 }

/-- What one step of the fetched word reaches, and what `f` reads there. -/
def stepReads {α : Type} (s : State) (nbits word : Nat) (f : State → α) : Option α :=
  match step (s.withFetchWord nbits word) with
  | .next t => some (f t)
  | .fault _ => none
  | .refused _ => none

/-- The transfers of a step from this state: its trace since reset is the step's. -/
def moved (s t : State) : List Transfer := s.bus.transfers t.trace

/-- V1.1. -/
theorem test_setDir : stepReads (State.reset) 32 0x01000000 (fun t => (t.bus.dir, t.trace, t.responses)) =
    some (.inp, [.dir .inp], [responseWord 0#3 0#16]) := by decide
/-- V1.3. -/
theorem test_setDir_refused : stepReads (onBus (busWith true false false .out)) 32 0x01000000 (fun t => (t.bus.dir, t.trace, t.status)) =
    some (.out, [], 3#3) := by decide
/-- V1.8. -/
theorem test_wrb : stepReads (onBus (busWith true true false .out)) 32 0x020000A5 (fun t => (moved (onBus (busWith true true false .out)) t, t.trace.length, t.bus.cs)) =
    some ([.write true 0xA5#8], 5, true) := by decide
/-- V1.10. -/
theorem test_wrb_reset : stepReads (onBus (busWith true false true .out)) 32 0x020000FF (fun t => (moved (onBus (busWith true false true .out)) t, t.bus.dout)) =
    some ([], 0xFF#8) := by decide
/-- V1.11: the byte is noise, and is returned. -/
theorem test_rdb : stepReads (answering [0x3C#8]) 32 0x03000000 (fun t => (t.rdata, t.din, t.bus.dir, moved State.reset t, t.responses)) =
    some (0x003C#16, 0x3C#8, .inp, [], [responseWord 0#3 0x003C#16]) := by decide
/-- V1.12. -/
theorem test_rdb_selected : stepReads ({ answering [0x3C#8] with bus := busWith true false false .out }) 32 0x03000000 (fun t => (t.rdata, moved (onBus (busWith true false false .out)) t)) =
    some (0x003C#16, [.read false 0x3C#8]) := by decide
/-- V1.13. -/
theorem test_selChip : stepReads (State.reset) 32 0x04000001 (fun t => (t.bus.cs, t.trace)) =
    some (true, [.line .cs true]) := by decide
/-- V1.15. -/
theorem test_selChip_off : stepReads (onBus (busWith true false false .out)) 32 0x04000000 (fun t => (t.bus.cs, t.trace)) =
    some (false, [.line .cs false]) := by decide
/-- V1.16. -/
theorem test_selCmd : stepReads (State.reset) 32 0x05000001 (fun t => (t.bus.cd, t.trace)) =
    some (true, [.line .cd true]) := by decide
/-- V1.18: the device forgets. -/
theorem test_setRst : stepReads (at740) 32 0x06000001 (fun t => (t.bus.rst, t.dev.mem, t.dev.ph, t.mirror)) =
    some (true, [], .u, { mx := false, my := false }) := by decide
/-- V1.19: the release changes nothing in the device. -/
theorem test_setRst_off : stepReads ({ at740 with bus := busWith false false true .out }) 32 0x06000000 (fun t => (t.bus.rst, t.dev)) =
    some (false, device740) := by decide
/-- V4.1. -/
theorem test_sendCmd : stepReads (State.reset) 32 0x10000006 (fun t => (moved State.reset t, t.trace.length, t.bus.cs, t.bus.cd, t.bus.dout, t.col)) =
    some ([.write true 0x06#8], 8, false, true, 0x06#8, 0#7) := by decide
/-- V4.2: the device's mapping changes, `MIRROR` does not. -/
theorem test_sendCmd_opaque : stepReads (State.reset) 32 0x100000C2 (fun t => (moved State.reset t, t.mirror, t.dev.settings.mapping)) =
    some ([.write true 0xC2#8], { mx := false, my := false }, some { mx := false, my := true }) := by decide
/-- V4.4: high byte first. -/
theorem test_wrWord : stepReads (State.reset) 32 0x1100ABCD (fun t => (moved State.reset t, t.trace.length, t.w, t.bus.cd, t.bus.dout)) =
    some ([.write false 0xAB#8, .write false 0xCD#8], 13, 0xABCD#16, false, 0xCD#8) := by decide
/-- P5, the third request: the word lands at (7, 40) and the cursor moves on. -/
theorem test_wrWord_device : stepReads (at740) 32 0x1100FFE0 (fun t => (t.dev.word 7 40, t.dev.ccol, t.dev.ph)) =
    some (0xFFE0#16, 41#7, .n) := by decide
/-- V4.5: the first byte never reaches `RDATA`. -/
theorem test_rdWord : stepReads (answering [0x77#8, 0x12#8, 0x34#8]) 32 0x12000000 (fun t => (t.rdata, t.w, t.trace.length, moved State.reset t)) =
    some (0x1234#16, 0x1234#16, 18, [.read false 0x77#8, .read false 0x12#8, .read false 0x34#8]) := by decide
/-- P5, the sixth request: the device's word, and the cursor moves on. -/
theorem test_rdWord_device : stepReads (at740) 32 0x12000000 (fun t => (t.rdata, t.dev.ccol, t.dev.ph)) =
    some (0x07E0#16, 41#7, .n) := by decide
/-- V5, S3 as corrected (C10). -/
theorem test_setCol : stepReads (State.reset) 32 0x20000026 (fun t => (moved State.reset t, t.col, t.trace.length)) =
    some ([.write true 0x06#8, .write true 0x12#8], 38#7, 16) := by decide
/-- V5: bit 7 is not dropped before the check. -/
theorem test_setCol_reject : stepReads (State.reset) 32 0x200000A6 (fun t => (t.trace, t.col, t.status)) =
    some ([], 0#7, 1#3) := by decide
/-- V5. -/
theorem test_setRow : stepReads (State.reset) 32 0x2100009F (fun t => (moved State.reset t, t.row, t.trace.length)) =
    some ([.write true 0x6F#8, .write true 0x79#8], 159#8, 16) := by decide
/-- V5. -/
theorem test_setRow_reject : stepReads (State.reset) 32 0x210000A0 (fun t => (t.trace, t.row, t.status)) =
    some ([], 0#8, 1#3) := by decide
/-- V6.4: garbage in, garbage out, one field forced. -/
theorem test_drawPixel : stepReads (answering [0x77#8, 0x12#8, 0x34#8]) 32 0x22000001 (fun t => (t.w, t.pos, t.col, (moved State.reset t).drop 11, t.trace.length)) =
    some (0xFA34#16, 0#2, 37#7, [.write false 0xFA#8, .write false 0x34#8], 95) := by decide
/-- V6.5: with `MY = 1`, x = 160 is out of range. -/
theorem test_drawPixel_reject : stepReads (mirrored false true) 32 0x22A06400 (fun t => (t.trace, t.row, t.w, t.status)) =
    some ([], 0#8, 0#16, 1#3) := by decide

/-- V6.7: the first word `FILLSCREEN` writes and the address of the second (one round each; the whole fill is `fillWindow`). -/
theorem test_fillScreen_rounds :
    xfers ((State.reset.setW (packWord true true true)).fillWord 37 0).trace =
      [.write true 0x05#8, .write true 0x12#8, .write true 0x60#8, .write true 0x70#8, .write false 0xFF#8, .write false 0xFF#8] ∧
    (xfers ((State.reset.setW (packWord true true true)).fillWord 37 1).trace).take 4 =
      [.write true 0x05#8, .write true 0x12#8, .write true 0x61#8, .write true 0x70#8] := by decide

/-- V6.7: the order of the words, columns outermost. -/
theorem test_fillScreen_order : fillOrder.head? = some (37, 0) ∧ fillOrder[1]? = some (37, 1) ∧
    fillOrder[160]? = some (38, 0) := by
  refine ⟨rfl, rfl, rfl⟩

/-- V6.8. -/
theorem test_drawTriplet : stepReads (State.reset) 32 0x24000005 (fun t => (moved State.reset t, t.w, t.trace.length)) =
    some ([.write false 0xF8#8, .write false 0x1F#8], 0xF81F#16, 13) := by decide
/-- V7. -/
theorem test_setVbias : stepReads (State.reset) 32 0x30000040 (fun t => (moved State.reset t, t.trace.length, t.dev.vb)) =
    some ([.write true 0x81#8, .write true 0x40#8], 16, false) := by decide
/-- V7: the value 0xE2 is no system reset; RAM is kept. -/
theorem test_setVbias_value : stepReads (at740) 32 0x300000E2 (fun t => (t.dev.word 7 40, t.dev.ccol, t.dev.settings.vbias)) =
    some (0x07E0#16, 40#7, some 0xE2#8) := by decide
/-- V7. -/
theorem test_setInv : stepReads (State.reset) 32 0x31000001 (fun t => (moved State.reset t, t.trace.length)) =
    some ([.write true 0xA7#8], 8) := by decide
/-- V7. -/
theorem test_setDispEn : stepReads (State.reset) 32 0x32000000 (fun t => (moved State.reset t, t.trace.length)) =
    some ([.write true 0xAC#8], 8) := by decide
/-- V7. -/
theorem test_setMap : stepReads (State.reset) 32 0x33000002 (fun t => (moved State.reset t, t.mirror, t.trace.length)) =
    some ([.write true 0xC2#8], { mx := false, my := true }, 8) := by decide
/-- V7: unused bits of `C` are ignored. -/
theorem test_setMap_junk : stepReads (State.reset) 32 0x330000FF (fun t => (moved State.reset t, t.mirror)) =
    some ([.write true 0xC6#8], { mx := true, my := true }) := by decide
/-- V7. -/
theorem test_setColorPat : stepReads (State.reset) 32 0x34000000 (fun t => (moved State.reset t, t.trace.length)) =
    some ([.write true 0xD1#8], 8) := by decide
/-- V7. -/
theorem test_setColorMode : stepReads (State.reset) 32 0x35000000 (fun t => (moved State.reset t, t.trace.length)) =
    some ([.write true 0xD4#8], 8) := by decide
/-- V7: nine events, `MIRROR` unchanged. -/
theorem test_sysReset : stepReads (mirrored false true) 32 0x36000000 (fun t => (moved State.reset t, t.trace.length, t.mirror, t.dev.mem)) =
    some ([.write true 0xE2#8], 9, { mx := false, my := true }, []) := by decide
/-- V9.1, its first transfer. -/
theorem test_cmdColLow : stepReads (State.reset) 8 0x08 (fun t => (moved State.reset t, t.dev.colLo, t.dev.ph)) =
    some ([.write true 0x08#8], 8#4, .a1) := by decide
/-- V9.5: the high part after a row, not after the low part. -/
theorem test_cmdColHigh : stepReads (at740) 8 0x12 (fun t => (moved at740 t, t.dev.ccol, t.dev.ph, t.col)) =
    some ([.write true 0x12#8], 40#7, .a0, 0#7) := by decide
/-- V9.5: a row before the column. -/
theorem test_cmdRowLow : stepReads (State.reset) 8 0x67 (fun t => (moved State.reset t, t.dev.rowLo, t.dev.ph)) =
    some ([.write true 0x67#8], 7#4, .a0) := by decide
/-- V9.1, its fourth transfer. -/
theorem test_cmdRowHigh : stepReads ({ at740 with dev := { device740 with ph := .a3 } }) 8 0x70 (fun t => (t.dev.crow, t.dev.ph)) =
    some (7#8, .a4) := by decide
/-- V9.7: the next command byte is a value. -/
theorem test_cmdVbias : stepReads (at740) 8 0x81 (fun t => (moved at740 t, t.dev.vb, t.dev.ph)) =
    some ([.write true 0x81#8], true, .a0) := by decide
/-- V9.7: `0x06` after `0x81` is consumed. -/
theorem test_cmdVbias_value : stepReads ({ at740 with dev := { device740 with vb := true } }) 8 0x06 (fun t => (t.dev.vb, t.dev.ccol, t.dev.ph)) =
    some (false, 40#7, .a0) := by decide
/-- V9.6: a command between address and data. -/
theorem test_cmdInverse : stepReads (at740) 8 0xA6 (fun t => (moved at740 t, t.dev.ccol, t.dev.ph, t.dev.settings.inverse)) =
    some ([.write true 0xA6#8], 40#7, .a0, some false) := by decide
/-- R36. -/
theorem test_cmdDispen : stepReads (at740) 8 0xAD (fun t => (moved at740 t, t.dev.mem, t.dev.ph)) =
    some ([.write true 0xAD#8], device740.mem, .a0) := by decide
/-- R36, R52. -/
theorem test_cmdMapping : stepReads (at740) 8 0xC4 (fun t => (moved at740 t, t.mirror, t.dev.settings.mapping, t.dev.ph)) =
    some ([.write true 0xC4#8], { mx := false, my := false }, some { mx := true, my := false }, .a0) := by decide
/-- R36. -/
theorem test_cmdColorPat : stepReads (at740) 8 0xD1 (fun t => (moved at740 t, t.dev.mem, t.dev.ph)) =
    some ([.write true 0xD1#8], device740.mem, .a0) := by decide
/-- R36. -/
theorem test_cmdColorMode : stepReads (at740) 8 0xD4 (fun t => (moved at740 t, t.dev.mem, t.dev.ph)) =
    some ([.write true 0xD4#8], device740.mem, .a0) := by decide
/-- V9.8: RAM is no longer known. -/
theorem test_cmdSysReset : stepReads (at740) 8 0xE2 (fun t => (moved at740 t, t.dev.mem, t.dev.ph, t.trace.length)) =
    some ([.write true 0xE2#8], [], .a0, 8) := by decide
/-- V8. -/
theorem test_illegal : stepReads (State.reset) 32 0x37000000 (fun t => (t.status, t.busy, t.trace, t.responses)) =
    some (2#3, false, [], [responseWord 2#3 0#16]) := by decide

/-! ## The device model (V9) -/

/-- V9.1 and V9.2. -/
theorem test_device_words :
    let d := Device.initial.run [.write true 0x08#8, .write true 0x12#8, .write true 0x67#8, .write true 0x70#8,
      .write false 0x12#8, .write false 0x34#8, .write false 0x56#8, .write false 0x78#8]
    d.word 7 40 = 0x1234#16 ∧ d.word 7 41 = 0x5678#16 ∧ d.crow = 7#8 ∧ d.ccol = 42#7 ∧ d.ph = .n := by decide

/-- V9.10: a second word past column 90 makes the device forget its RAM. -/
theorem test_device_outOfWindow :
    let d := Device.initial.run [.write true 0x0A#8, .write true 0x15#8, .write true 0x6F#8, .write true 0x79#8,
      .write false 0xFF#8, .write false 0xFF#8]
    d.word 159 90 = 0xFFFF#16 ∧ d.ccol = 91#7 ∧ (d.run [.write false 0x00#8, .write false 0x00#8]).mem = [] := by decide

/-- V9.4: a second read without re-addressing promises nothing and leaves the device out of discipline. -/
theorem test_device_secondRead :
    let d := device740.run [.read false 0x00#8, .read false 0x07#8, .read false 0xE0#8]
    d.ph = .n ∧ d.ccol = 41#7 ∧ d.readValue false = none ∧ (d.run [.read false 0x00#8]).ph = .u ∧
    (d.run [.read false 0x00#8]).mem = device740.mem := by decide

/-- The response word's fields (R44). -/
theorem test_response : responseStatus (responseWord 1#3 0x1234#16) = 1#3 ∧
    responseData (responseWord 1#3 0x1234#16) = 0x1234#16 := by decide

/-- R8: the pin waveform leaves out what changed nothing. -/
theorem test_waveform : Bus.reset.waveform [.line .cs true, .line .cs true, .hold 5, .dir .out, .drive 0x06#8] =
    [.line .cs true, .drive 0x06#8] := by decide


/-! ## The launch premises (R100, R107, R116) -/

/-- The boot order of R100, with an opaque byte of step 5 after `SETMAP`. -/
def bootedState : State :=
  { State.reset with
    accepted := [0x06000001#32, 0x06000000#32, 0x36000000#32, 0x34000000#32, 0x35000000#32, 0x33000002#32, 0x1000002F#32,
      0x30000040#32, 0x32000001#32]
    dev := { Device.initial with settings := { mapping := some { mx := false, my := true }, vbias := some 0x40#8, inverse := none, sleep := some true, colorPattern := true, colorMode := true } } }

theorem test_booted : bootedState.booted :=
  ⟨⟨[], [], [], [.setColorPat, .setColorMode, .setMap false true, .sendCmd 0x2F#8, .setVbias 0x40#8, .setDispEn true],
    by decide, by decide, by decide, by unfold resetsDevice; decide,
    ⟨by decide, by decide, ⟨false, true, by decide⟩, ⟨0x40#8, by decide⟩, ⟨true, by decide⟩⟩⟩,
    rfl, rfl, rfl, rfl, rfl⟩

theorem test_mapSet : bootedState.mapSet :=
  ⟨[.setRst true, .setRst false, .sysReset, .setColorPat, .setColorMode], false, true,
    [.sendCmd 0x2F#8, .setVbias 0x40#8, .setDispEn true], by decide, by unfold owesMap; decide⟩

/-- R36, R107: an opaque byte makes RAM unknown and leaves the settings as last commanded. -/
theorem test_opaque_keeps_settings :
    stepReads bootedState 32 0x1000002F (fun t => (t.dev.mem, t.dev.settings)) = some ([], bootedState.dev.settings) := by
  decide

/-- R116: an addressed write makes its word known. -/
theorem test_ramKnown :
    stepReads { at740 with dev := { device740 with written := [] } } 32 0x1100FFE0 (fun t => t.dev.written) =
    some [Memory.wordAddr 7 40] := by decide

/-- R40 (d): a word reached by auto-increment after an addressed write is not made known, and none is lost. -/
theorem test_ramKnown_continued :
    stepReads { at740 with dev := { device740 with ph := .n, access := .continued, written := [Memory.wordAddr 7 39] } } 32
      0x1100FFE0 (fun t => t.dev.written) = some [Memory.wordAddr 7 39] := by decide

/-- R40 (e): a word written after a read without a new address is known no more. -/
theorem test_ramKnown_afterRead :
    stepReads { at740 with dev := { device740 with ph := .n, access := .unaddressed, written := [1872] } } 32
      0x1100FFE0 (fun t => t.dev.written) = some [] := by decide

/-- R36, R116: a word lost half-written is known no more, another word still is. -/
theorem test_ramKnown_lost :
    stepReads { at740 with dev := { device740 with ph := .w1 0x12#8, written := [Memory.wordAddr 7 40, Memory.wordAddr 7 39] } } 32
      0x100000A6 (fun t => t.dev.written) = some [Memory.wordAddr 7 39] := by decide

/-! ## Witnesses: for each obligation with hypotheses, a state and operands that meet them all, clause by clause at the
boundaries -/

/-- A busy block with this request accepted. -/
def busyWith (req : Request) : State := State.reset.accept req

/-- An idle block with these host moves pending. -/
def waiting (ms : List HostMove) : State := { State.reset with host := ms }

theorem test_witness_EncodeOfDecodeIsTheWord :
    WellFormed.canonicalRequest 0x01000001#32 = true ∧ WellFormed.canonicalRequest 0x36000000#32 = true ∧
    WellFormed.listedCommand 0x00#8 = true ∧ WellFormed.listedCommand 0xE2#8 = true := by decide

/-- Each clause of the table at a word of its code, and codes beside the 21. -/
theorem test_witness_RequestFieldsDecodeAsTabled :
    operationCodes.map (fun c => opcField (requestWord c 0xFF#8 0xFF#8 0xFF#8)) = operationCodes ∧
    opcField 0x00FFFFFF#32 ∉ operationCodes ∧ opcField 0x07000000#32 ∉ operationCodes ∧
    opcField 0x37000000#32 ∉ operationCodes ∧ opcField 0xFF000000#32 ∉ operationCodes := by decide

theorem test_witness_UnusedOperandBitsAreIgnored :
    0x01ABCDFE#32 &&& usedBits (opcField 0x01ABCDFE#32) = 0x01000000#32 &&& usedBits (opcField 0x01ABCDFE#32) ∧
    0x36FFFFFF#32 &&& usedBits (opcField 0x36FFFFFF#32) = 0x36000000#32 &&& usedBits (opcField 0x36FFFFFF#32) := by
  decide

/-- The places where the clauses meet: x = 0, x = 255, x = 159 and 160, and the last step of three. -/
theorem test_witness_TranslationLaysPixelsInThrees :
    (3 * 85 + 0 < 256 ∧ 3 * 0 + 0 < 256) ∧ (3 * 84 + 1 + 2 < 256 ∧ 3 * 0 + 1 + 0 < 256) ∧
    (159#8).toNat ≤ 159 ∧ (255#8).toNat = (252#8).toNat + 3 ∧ (3#8).toNat = (0#8).toNat + 3 ∧
    pixelColumn 159#8 false = pixelColumn 159#8 false ∧ subPosition 0#8 true = subPosition 0#8 true := by decide

theorem test_witness_UpdateTouchesOneFieldOnly : (0 : Fin 3) ≠ 1 ∧ (1 : Fin 3) ≠ 2 ∧ (2 : Fin 3) ≠ 0 := by decide

theorem test_witness_PackedWordsAreTheEight : (0 : Fin 3) ≠ 1 ∧ (2 : Fin 3) ≠ 1 := by decide

theorem test_witness_RangeCheckAcceptsTheseCoordinates :
    (159#8).toNat % 3 = 0 ∧ (160#8).toNat % 3 = 1 ∧ (161#8).toNat % 3 = 2 ∧ (159#8).toNat ≤ 159 ∧ (0#8).toNat ≤ 159 := by
  decide

theorem test_witness_AddressBytesSplitTheAddress :
    (37 ≤ (37#7).toNat ∧ (37#7).toNat ≤ 90) ∧ (37 ≤ (90#7).toNat ∧ (90#7).toNat ≤ 90) ∧ (0#8).toNat ≤ 159 ∧
    (159#8).toNat ≤ 159 := by decide

theorem test_witness_StepRunsTheDecodedInstruction :
    (busyWith 0x36000000#32).busy = true ∧ decodeRequest (busyWith 0x36000000#32).op = .ok .sysReset := by decide

theorem test_witness_StepRunsTheCommandByte :
    decodeCommand 0x00#8 = .ok (.colLow 0#4) ∧ decodeCommand 0xE2#8 = .ok .sysReset := by decide

theorem test_witness_IllegalRequestIsRejected :
    (busyWith 0x37000000#32).busy = true ∧ opcField (busyWith 0x37000000#32).op ∉ operationCodes ∧
    opcField (busyWith 0#32).op ∉ operationCodes := by decide

theorem test_witness_RequestIsAcceptedAndAnswered :
    (waiting [.request 0x03000000#32, .pause]).busy = false ∧
    (waiting [.request 0x03000000#32, .pause]).host = .request 0x03000000#32 :: [.pause] ∧
    (busyWith 0x03000000#32).busy = true := by decide

theorem test_witness_IdleBlockFollowsTheHost :
    State.reset.busy = false ∧ State.reset.host = [] ∧ (waiting [.pause]).host = .pause :: [] ∧
    (waiting [.blockReset]).host = .blockReset :: [] ∧
    (waiting [.requestThenReset 0#32]).host = .requestThenReset 0#32 :: [] ∧
    (waiting [.pause]).busy = false ∧ (waiting [.blockReset]).busy = false ∧
    (waiting [.requestThenReset 0#32]).busy = false := by decide

/-- Accepted without chip-select, and under chip-select in the direction already set (V1.1, V1.4); refused (V1.3, V1.5). -/
theorem test_witness_SetDirSetsOrRefuses :
    ¬(State.reset.bus.cs = true ∧ State.reset.bus.dir ≠ if false then Dir.out else Dir.inp) ∧
    ¬((onBus (busWith true false false .out)).bus.cs = true ∧
      (onBus (busWith true false false .out)).bus.dir ≠ if true then Dir.out else Dir.inp) ∧
    ((onBus (busWith true false false .out)).bus.cs = true ∧
      (onBus (busWith true false false .out)).bus.dir ≠ if false then Dir.out else Dir.inp) ∧
    ((onBus (busWith true false false .inp)).bus.cs = true ∧
      (onBus (busWith true false false .inp)).bus.dir ≠ if true then Dir.out else Dir.inp) := by decide

/-- A request word of each of these codes, with operand bits set: the decode clauses of `SetDirSetsOrRefuses`,
`WriteByteDrivesAndPulses`, `ReadByteSamplesThePins`, `SendCommandSendsOneByte`, `WriteWordSendsHighByteFirst`,
`ReadWordDiscardsOneByte`, `DrawTripletWritesThePackedWord`, `SetVbiasSendsTheRawValue`, `SysResetSendsAndSettles`. -/
theorem test_witness_codes :
    [0x01FFFFFF#32, 0x02FFFFFF#32, 0x03FFFFFF#32, 0x10FFFFFF#32, 0x11FFFFFF#32, 0x12FFFFFF#32, 0x24FFFFFF#32,
      0x30FFFFFF#32, 0x36FFFFFF#32].map (fun w => w.extractLsb' 24 8) =
    [0x01#8, 0x02#8, 0x03#8, 0x10#8, 0x11#8, 0x12#8, 0x24#8, 0x30#8, 0x36#8] := by decide

/-- Out of reset: the transfers of `SendCommandSendsOneByte`, `WriteWordSendsHighByteFirst`, `ReadWordDiscardsOneByte`. -/
theorem test_witness_SendCommandSendsOneByte : State.reset.bus.rst = false := rfl

/-- Both clauses about the byte: an environment that answers, and a selected device that fixes its second byte. -/
theorem test_witness_ReadByteSamplesThePins :
    (answering [0x3C#8]).oracle = .script (0x3C#8 :: []) ∧
    (let s : State := { onBus (busWith true false false .out) with dev := { device740 with ph := .r1 } }
     s.oracle = .device ∧ s.bus.cs = true ∧ s.bus.rst = false ∧ s.dev.readValue s.bus.cd = some 0x07#8) := by decide

theorem test_witness_ResetLineMakesTheDeviceForget :
    State.reset.bus.rst = false ∧ (onBus (busWith false false true .out)).bus.rst = true := by decide

theorem test_witness_ReadWordDiscardsOneByte :
    (answering [0x77#8, 0x12#8, 0x34#8]).oracle = .script (0x77#8 :: 0x12#8 :: 0x34#8 :: []) := by decide

theorem test_witness_AddressOperationsSendTwoBytes :
    (37 ≤ (37#8).toNat ∧ (37#8).toNat ≤ 90) ∧ (37 ≤ (90#8).toNat ∧ (90#8).toNat ≤ 90) ∧ (0#8).toNat ≤ 159 ∧
    (159#8).toNat ≤ 159 := by decide

/-- Each side of each range, in both modes. -/
theorem test_witness_OutOfRangeRequestsAreRejected :
    (36#8).toNat < 37 ∧ 90 < (91#8).toNat ∧ 159 < (160#8).toNat ∧
    (if State.reset.mirror.my then 159 < (162#8).toNat else 161 < (162#8).toNat) ∧
    (if (mirrored false true).mirror.my then 159 < (160#8).toNat else 161 < (160#8).toNat) := by decide

/-- The last accepted coordinates in both modes (V6.6, V2). -/
theorem test_witness_DrawPixelReadsModifiesWrites :
    (159#8).toNat ≤ 159 ∧ (if State.reset.mirror.my then (161#8).toNat ≤ 159 else (161#8).toNat ≤ 161) ∧
    (if (mirrored false true).mirror.my then (159#8).toNat ≤ 159 else (159#8).toNat ≤ 161) ∧
    (answering [0x77#8, 0x12#8, 0x34#8]).oracle = .script (0x77#8 :: 0x12#8 :: 0x34#8 :: []) := by decide

theorem test_witness_DrawPixelMovesThirteenTransfers : Bus.reset.rst = false := rfl

/-- A ready device: the premise of `SetVbiasSendsTheRawValue`, `OneByteCommandsSendTheirByte`, `SetMapSendsAndStoresTheMode`,
`SysResetSendsAndSettles`, `AddressBytesSetTheCursor`, `OtherCommandBytesReachTheDevice`, `MirrorAgreementIsMadeAndLost`. -/
theorem test_witness_deviceReady : State.reset.deviceReady ∧ at740.deviceReady :=
  ⟨⟨rfl, rfl, fun h => by simp [State.reset, Device.initial]⟩, ⟨rfl, rfl, fun h => by simp [at740, device740]⟩⟩

/-- Both branches of the address phase: the sequence goes on, or starts over. -/
theorem test_witness_AddressBytesSetTheCursor :
    ({ at740 with dev := { device740 with ph := .a1 } } : State).deviceReady ∧
    ({ at740 with dev := { device740 with ph := .a2 } } : State).deviceReady ∧
    ({ at740 with dev := { device740 with ph := .a3 } } : State).deviceReady :=
  ⟨⟨rfl, rfl, fun h => by simp⟩, ⟨rfl, rfl, fun h => by simp⟩, ⟨rfl, rfl, fun h => by simp⟩⟩

/-- A device line held in reset (`SysResetSendsAndSettles`). -/
theorem test_witness_SysResetSendsAndSettles : (onBus (busWith false false true .out)).bus.rst = true := rfl

/-- A disjunct with a premise, at both ends of its range. -/
theorem test_witness_ExpansionsGiveTheSameTrace :
    (Instr.setCol 37#8 = .setCol 37#8 ∧ inRangeColumn (37#8).toNat = true) ∧ inRangeColumn (90#8).toNat = true ∧
    inRangeRow (0#8).toNat = true ∧ inRangeRow (159#8).toNat = true ∧
    (columnBytes ((90#8).setWidth 7)).map Instr.sendCmd = [.sendCmd 0x0A#8, .sendCmd 0x15#8] := by decide

/-- The clauses by phase, with the cursor in the window and past it. -/
theorem test_witness_DataWritesFollowThePhase :
    device740.ph = .a4 ∧ ({ device740 with ph := .n } : Device).ph = .n ∧
    ({ device740 with ph := .w1 0x12#8 } : Device).ph = .w1 0x12#8 ∧
    ({ device740 with ph := .w1 0x12#8 } : Device).inWindow = true ∧
    ({ device740 with ph := .w1 0x12#8, colHi := 5, colLo := 11 } : Device).inWindow = false ∧
    ({ device740 with ph := .w1 0x12#8, colHi := 5, colLo := 10 } : Device).inWindow = true ∧
    Device.initial.ph ∈ [Phase.a0, .a1, .a2, .a3, .r1, .r2, .u] := by decide

theorem test_witness_DataReadsFollowThePhase :
    device740.ph = .a4 ∧ ({ device740 with ph := .r1 } : Device).inWindow = true ∧
    ({ device740 with ph := .r2, rowHi := 10 } : Device).inWindow = false ∧
    Device.initial.ph ∈ [Phase.a0, .a1, .a2, .a3, .n, .u] ∧
    ({ device740 with ph := .w1 0x12#8 } : Device).ph = .w1 0x12#8 := by decide

/-- Each clause: the lost half-written word in the window and out of it, a value after `0x81`, both ends of each class, and
bytes beside the table; with `test_witness_whole`. -/
theorem test_witness_CommandWritesFollowTheTable :
    ({ device740 with ph := .w1 0x12#8 } : Device).ph = .w1 0x12#8 ∧
    ({ device740 with ph := .w1 0x12#8 } : Device).inWindow = true ∧
    ({ device740 with ph := .w1 0x12#8, rowHi := 10 } : Device).inWindow = false ∧
    ({ device740 with vb := true } : Device).vb = true ∧ device740.vb = false ∧
    (0x0F#8).toNat ≤ 0x0F ∧ (0x10 ≤ (0x10#8).toNat ∧ (0x17#8).toNat ≤ 0x17) ∧
    (0x60 ≤ (0x60#8).toNat ∧ (0x6F#8).toNat ≤ 0x6F) ∧ (0x70 ≤ (0x70#8).toNat ∧ (0x7F#8).toNat ≤ 0x7F) ∧
    0xD4#8 ∈ [0xA6#8, 0xA7#8, 0xAC#8, 0xAD#8, 0xC0#8, 0xC2#8, 0xC4#8, 0xC6#8, 0xD1#8, 0xD4#8] ∧
    WellFormed.listedCommand 0x18#8 = false ∧ WellFormed.listedCommand 0x5F#8 = false ∧
    WellFormed.listedCommand 0x80#8 = false ∧ WellFormed.listedCommand 0xE2#8 = true := by decide

theorem test_witness_whole : device740.ph.whole ∧ Device.initial.ph.whole :=
  ⟨fun h => by simp [device740], fun h => by simp [Device.initial]⟩

/-- The corners of the window; with `test_witness_whole`. -/
theorem test_witness_AddressedAccessRoundTrip :
    Device.initial.vb = false ∧ Memory.inWindow 0 37 = true ∧ Memory.inWindow 159 90 = true := by decide

/-- One word in the last column, and a whole row; with `test_witness_whole`. -/
theorem test_witness_WordsAfterOneAddressAdvance :
    Device.initial.vb = false ∧ 90 + [0xFFFF#16].length ≤ 91 ∧ 37 + (List.replicate 54 0xFFFF#16).length ≤ 91 := by decide

theorem test_witness_WordsAreStoredAtTheCursor :
    at740.bus.rst = false ∧ at740.dev.ph = .a4 ∧ at740.dev.inWindow = true ∧
    ({ device740 with ph := .n, colHi := 5, colLo := 10 } : Device).inWindow = true := by decide

theorem test_witness_ReadWordReadsAtTheCursor :
    at740.bus.rst = false ∧ at740.dev.ph = .a4 ∧ at740.dev.inWindow = true ∧ at740.oracle = .device := by decide

/-- The premises of `DrawPixelChangesOneField` and `DrawPixelIsIdempotent`, at the last coordinates of both modes. -/
theorem test_witness_DrawPixelChangesOneField :
    (159#8).toNat ≤ 159 ∧ (if State.reset.mirror.my then (161#8).toNat ≤ 159 else (161#8).toNat ≤ 161) ∧
    State.reset.deviceReady ∧ State.reset.oracle = .device ∧
    (if (mirrored false true).mirror.my then (159#8).toNat ≤ 159 else (159#8).toNat ≤ 161) ∧
    (mirrored false true).deviceReady ∧ (mirrored false true).oracle = .device :=
  ⟨by decide, by decide, test_witness_deviceReady.1, rfl, by decide,
    ⟨rfl, rfl, fun h => by simp [mirrored, State.reset, Device.initial]⟩, rfl⟩

theorem test_witness_FillScreenFillsTheWindow :
    State.reset.bus.rst = false ∧ State.reset.dev.vb = false ∧
    ({ at740 with dev := { device740 with ph := .w1 0x12#8 } } : State).dev.vb = false := by decide

/-- A state that meets the invariant and steps: the state after reset with a pause pending. -/
theorem test_witness_StepKeepsTheInvariant :
    (waiting [.pause]).Inv ∧ step (waiting [.pause]) = .next State.reset := by
  refine ⟨⟨⟨⟨rfl, rfl, rfl⟩, rfl, rfl⟩, ?_, Memory.wf_nil⟩, rfl⟩
  unfold State.RegistersInv; decide

/-- A busy block with a request of each status: the accepted one, and one for each code of a reject. -/
theorem test_witness_OnlyTheseRequestsAreRejected :
    (busyWith 0x2000005A#32).busy = true ∧ decodeRequest (busyWith 0x2000005A#32).op = .ok (.setCol 90#8) ∧
    (busyWith 0x2000005B#32).busy = true ∧ decodeRequest (busyWith 0x2000005B#32).op = .ok (.setCol 91#8) ∧
    opcField (busyWith 0x37000000#32).op ∉ operationCodes ∧
    (let s : State := { onBus (busWith true false false .out) with busy := true, op := 0x01000000#32 }
     s.busy = true ∧ decodeRequest s.op = .ok (.setDir false) ∧ s.bus.cs = true ∧ s.bus.dir ≠ .inp) := by decide

/-- An instruction that answers a next state, for the statements over all instructions: `ChipSelectIsReleased`,
`ControlRegistersHaveOneWriter`, `DeviceSeesOnlyTheEvents`. -/
theorem test_witness_execAnswers :
    (∃ t, exec (.wrWord 0xABCD#16) State.reset = .next t ∧ t.status = 0#3) ∧ State.reset.bus.cs = false ∧
    Instr.wrWord 0xABCD#16 ≠ .selChip true ∧ Instr.wrWord 0xABCD#16 ≠ .rdb := ⟨⟨_, rfl, rfl⟩, rfl, by decide, by decide⟩

theorem test_witness_BlockConsultsOnlySampledBytes :
    (answering [1#8, 2#8, 3#8]).oracle = .script (1#8 :: 2#8 :: 3#8 :: []) := rfl

/-- An accepted request and a rejected one, from a quiet bus out of reset. -/
theorem test_witness_EventAndTransferCounts :
    State.reset.bus.quiet ∧ State.reset.bus.rst = false ∧ (∃ t, exec .sysReset State.reset = .next t ∧ t.status = 0#3) ∧
    (∃ t, exec (.setRow 160#8) State.reset = .next t ∧ t.status ≠ 0#3) :=
  ⟨⟨rfl, rfl, rfl⟩, rfl, ⟨_, rfl, rfl⟩, ⟨_, rfl, by decide⟩⟩


end Sys2Proof.Tests
end

section
/-! PROOFS. What an instruction does, said once for all of them: `exec` rejects the request (60_exceptions.md R86, R90) or
performs its actions and ends with `OK` (10_state.md R17). Every statement over all instructions is a case split over
`State.perform`. -/

namespace Sys2Proof

/-- The command bytes an instruction sends whatever the state it finds, in order (R46, R62, R79 to R85). -/
def Instr.commandBytes (i : Instr) : List Byte :=
  match i with
  | .sendCmd b => [b]
  | .setVbias v => [encodeCommand .vbias, v]
  | .setInv e | .cmdInverse e => [encodeCommand (.inverse e)]
  | .setDispEn p | .cmdDispen p => [encodeCommand (.dispen p)]
  | .setMap mx my | .cmdMapping mx my => [encodeCommand (.mapping mx my)]
  | .setColorPat | .cmdColorPat => [encodeCommand .colorPat]
  | .setColorMode | .cmdColorMode => [encodeCommand .colorMode]
  | .sysReset | .cmdSysReset => [encodeCommand .sysReset]
  | .cmdColLow n => [encodeCommand (.colLow n)]
  | .cmdColHigh n => [encodeCommand (.colHigh n)]
  | .cmdRowLow n => [encodeCommand (.rowLow n)]
  | .cmdRowHigh n => [encodeCommand (.rowHigh n)]
  | .cmdVbias => [encodeCommand .vbias]
  | _ => []

end Sys2Proof

namespace Sys2Proof.Machine

/-- The cause for which the request is rejected before its first action, if it is (R86, R89). -/
def State.rejectCause (s : State) (i : Instr) : Option RejectCause :=
  match i with
  | .setDir o => if s.bus.cs && s.bus.dir != requestedDir o then some .refusedDir else none
  | .setCol c => if inRangeColumn c.toNat then none else some .rejectRange
  | .setRow r => if inRangeRow r.toNat then none else some .rejectRange
  | .drawPixel x y _ =>
    if inRangeRow (pixelRow y) && inRangeColumn (pixelColumn x s.mirror.my) then none else some .rejectRange
  | _ => none

/-- Several commands, one `SENDCMD` each (R54). -/
def State.sendCommands (s : State) (bs : List Byte) : State := bs.foldl State.sendCommand s

/-- The actions of an accepted request and the registers they write, up to the response (40 to 43). The last arm is the
instructions that send command bytes and do nothing else. -/
def State.perform (s : State) (i : Instr) : State :=
  match i with
  | .setDir o => s.setDir (requestedDir o)
  | .wrb v => s.writePulse v
  | .rdb => s.readPulse.rdataFromDin
  | .selChip a => s.setLine .cs a
  | .selCmd k => s.setLine .cd k
  | .setRst a => s.setLine .rst a
  | .wrWord v => s.writeWord v
  | .rdWord => s.readWord.rdataFromW
  | .setCol c => (s.setCol (c.setWidth 7)).sendColumn
  | .setRow r => (s.setRow r).sendRow
  | .drawPixel x y on => (s.setTarget x y).updatePixel (subPosition x s.mirror.my) on
  | .fillScreen on => (s.setW (packWord on on on)).fillWindow
  | .drawTriplet p1 p2 p3 => s.writeWord (packWord p1 p2 p3)
  | .setMap mx my => (s.sendCommands (Instr.setMap mx my).commandBytes).setMirror mx my
  | .sysReset => (s.sendCommands Instr.sysReset.commandBytes).hold Config.sysresetSettleMin
  | i => s.sendCommands i.commandBytes

/-- The state with the response given: rejected, or performed and `OK` (R17, R90). -/
def State.outcome (s : State) (i : Instr) : State :=
  match s.rejectCause i with
  | some c => s.reject c
  | none => (s.perform i).finish statusOk

theorem State.outcome_of_rejected {s : State} {i : Instr} {c : RejectCause} (h : s.rejectCause i = some c) :
    s.outcome i = s.reject c := by
  simp [State.outcome, h]

theorem State.outcome_of_accepted {s : State} {i : Instr} (h : s.rejectCause i = none) :
    s.outcome i = (s.perform i).finish statusOk := by
  simp [State.outcome, h]

/-- Every instruction answers a next state: its outcome (R114). -/
theorem exec_eq_outcome (i : Instr) (s : State) : exec i s = .next (s.outcome i) := by
  cases i
  case setDir o =>
    show execSetDir o s = _
    unfold execSetDir
    split
    · next h => rw [State.outcome_of_rejected (s := s) (i := .setDir o) (if_pos h)]
    · next h => rw [State.outcome_of_accepted (s := s) (i := .setDir o) (if_neg h)]; rfl
  case setCol c =>
    show execSetCol c s = _
    unfold execSetCol
    split
    · next h => rw [State.outcome_of_accepted (s := s) (i := .setCol c) (if_pos h)]; rfl
    · next h => rw [State.outcome_of_rejected (s := s) (i := .setCol c) (if_neg h)]
  case setRow r =>
    show execSetRow r s = _
    unfold execSetRow
    split
    · next h => rw [State.outcome_of_accepted (s := s) (i := .setRow r) (if_pos h)]; rfl
    · next h => rw [State.outcome_of_rejected (s := s) (i := .setRow r) (if_neg h)]
  case drawPixel x y on =>
    show execDrawPixel x y on s = _
    unfold execDrawPixel
    split
    · next h => rw [State.outcome_of_accepted (s := s) (i := .drawPixel x y on) (if_pos h)]; rfl
    · next h => rw [State.outcome_of_rejected (s := s) (i := .drawPixel x y on) (if_neg h)]
  all_goals rfl

/-- What a step of the busy block can do: the reject of an illegal request, or the outcome of the decoded instruction. -/
theorem step_of_busy {s : State} (h : s.busy = true) :
    step s = .next (s.reject .illegalOp) ∨ ∃ i, decodeRequest s.op = .ok i ∧ step s = .next (s.outcome i) := by
  simp only [step, h, if_true, State.runOp]
  split
  · next i hi => exact .inr ⟨i, hi, exec_eq_outcome i s⟩
  · exact .inl rfl

theorem step_of_idle {s : State} (h : s.busy = false) : step s = .next s.meetHost := by
  simp [step, h]

end Sys2Proof.Machine
end

section
/-! PROOFS. What the actions of an accepted instruction do to the lines, the trace and the device (10_state.md R12, R18), to
the registers (R14 to R17), and what they keep. -/

namespace Sys2Proof.Machine

/-! ### The shared sequences -/

/-- Everything `FILLSCREEN`'s loops do, as one equation (R76). -/
theorem State.fillWindow_eq (s : State) :
    s.fillWindow =
      { s with
        bus := { s.bus with cs := false, cd := false, dir := .out, dout := lowByte s.w, wr := false, pulse := false }
        fc := 90#7
        fr := 159#8
        col := 90#7
        row := 159#8
        log := (fillEvents s.w).reverse ++ s.log
        seq := 45
        timer := 0
        dev := if s.bus.rst then s.dev else s.dev.run (fillOrder.flatMap (fillWordTransfers s.w)) } := by
  rw [State.fillWindow_eq_fillWords, fillEvents, fillOrder_last]
  exact State.fillWords_snoc s _ (90, 159)

theorem State.Ran.sendCommands (s : State) (bs : List Byte) : s.Ran (s.sendCommands bs) (commandEvents bs) := by
  induction bs generalizing s with
  | nil => exact State.Ran.refl rfl rfl rfl
  | cons b bs ih => exact (State.Ran.sendCommand s b).trans (ih _)

theorem State.Kept.refl (s : State) : s.Kept s := ⟨rfl, rfl, rfl, rfl, rfl, rfl, rfl, rfl⟩

theorem State.Kept.sendCommands (s : State) (bs : List Byte) : s.Kept (s.sendCommands bs) := by
  induction bs generalizing s with
  | nil => exact State.Kept.refl s
  | cons b bs ih => exact (State.Kept.sendCommand s b).trans (ih _)

/-! ### Lines, trace and device -/

/-- A sequence that starts after registers alone were written. -/
theorem State.Ran.of_start {s s' t : State} {es : List Event} (h : s'.Ran t es) (hl : s'.log = s.log)
    (hb : s'.bus = s.bus) (hd : s'.dev = s.dev) : s.Ran t es :=
  (State.Ran.refl hl hb hd).trans h

/-- A sequence after which registers alone are written. -/
theorem State.Ran.of_end {s t u : State} {es : List Event} (h : s.Ran t es) (hl : u.log = t.log) (hb : u.bus = t.bus)
    (hd : u.dev = t.dev) : s.Ran u es := by
  have hu := h.trans (State.Ran.refl hl hb hd)
  rwa [List.append_nil] at hu

theorem State.Ran.writeWord (s : State) (v : Word) : s.Ran (s.writeWord v) (wrWordEvents v) :=
  (State.Ran.sendWord (s.setW v)).of_start rfl rfl rfl

/-- The actions of an accepted instruction are some events, which keep the strobe discipline (R12). -/
theorem State.perform_ran (s : State) (i : Instr) : ∃ es, s.Ran (s.perform i) es ∧ s.bus.Keeps es := by
  cases i with
  | setDir o => exact ⟨_, State.Ran.setDir s _, Bus.Keeps.one _ _ (by simp) (by simp)⟩
  | wrb v => exact ⟨_, State.Ran.writePulse s v, Bus.Keeps.writePulse _ v⟩
  | rdb => exact ⟨_, (State.Ran.readPulse s).of_end rfl rfl rfl, Bus.Keeps.readPulse _ _⟩
  | selChip a => exact ⟨_, State.Ran.setLine s .cs a, Bus.Keeps.line _ _ _ (by simp) (by simp)⟩
  | selCmd k => exact ⟨_, State.Ran.setLine s .cd k, Bus.Keeps.line _ _ _ (by simp) (by simp)⟩
  | setRst a => exact ⟨_, State.Ran.setLine s .rst a, Bus.Keeps.line _ _ _ (by simp) (by simp)⟩
  | wrWord v => exact ⟨_, State.Ran.writeWord s v, Bus.Keeps.wrWord _ v⟩
  | rdWord => exact ⟨_, (State.Ran.readWord s).of_end rfl rfl rfl, Bus.Keeps.rdWord _ _ _ _⟩
  | setCol c => exact ⟨_, (State.Ran.sendColumn _).of_start rfl rfl rfl, Bus.Keeps.commands _ _⟩
  | setRow r => exact ⟨_, (State.Ran.sendRow _).of_start rfl rfl rfl, Bus.Keeps.commands _ _⟩
  | drawPixel x y on => exact ⟨_, (State.Ran.updatePixel _ _ on).of_start rfl rfl rfl, Bus.Keeps.drawPixel _ _ _ _ _ _ _ _⟩
  | fillScreen on => exact ⟨_, (State.Ran.fillWindow _).of_start rfl rfl rfl, Bus.Keeps.fillWords _ _ _⟩
  | drawTriplet p1 p2 p3 => exact ⟨_, State.Ran.writeWord s _, Bus.Keeps.wrWord _ _⟩
  | setMap mx my => exact ⟨_, (State.Ran.sendCommands s _).of_end rfl rfl rfl, Bus.Keeps.commands _ _⟩
  | sysReset =>
    exact ⟨_, (State.Ran.sendCommands s _).trans (State.Ran.hold _ _),
      (Bus.Keeps.commands _ _).append (Bus.Keeps.one _ _ (by simp) (by simp))⟩
  | _ => exact ⟨_, State.Ran.sendCommands s _, Bus.Keeps.commands _ _⟩

end Sys2Proof.Machine
end

section
/-! PROOFS. The invariant of the machine, kept by every step (10_state.md R12, R15 to R18; 20_memory.md R35). -/

namespace Sys2Proof.Machine

/-! ### The lines and the device, after any disciplined events -/

theorem State.LinesInv.of_ran {s t : State} {es : List Event} (h : s.LinesInv) (hr : s.Ran t es)
    (hk : s.bus.Keeps es) : t.LinesInv := by
  obtain ⟨hq, hrun, hdis⟩ := h
  obtain ⟨hlog, hbus, -⟩ := hr
  obtain ⟨hes, hqt⟩ := hk hq
  unfold State.LinesInv
  rw [State.trace_of_log hlog, Bus.run_append, Bus.disciplined_append, hrun, ← hbus]
  exact ⟨hbus ▸ hqt, rfl, hdis, hes⟩

theorem State.MemoryInv.of_ran {s t : State} {es : List Event} (h : s.MemoryInv) (hr : s.Ran t es) : t.MemoryInv := by
  obtain ⟨-, -, hdev⟩ := hr
  unfold State.MemoryInv
  rw [hdev]
  exact Device.follow_wf s.bus es h

/-! ### The registers -/

/-- The registers of `State.RegistersInv` are as before, and the down-counter is at zero. -/
def State.SameLegal (s t : State) : Prop :=
  t.col = s.col ∧ t.row = s.row ∧ t.pos = s.pos ∧ t.fc = s.fc ∧ t.fr = s.fr ∧ t.status = s.status ∧ t.timer = 0

theorem State.SameLegal.writePulse (s : State) (v : Byte) : s.SameLegal (s.writePulse v) := by
  rw [State.writePulse_eq]; exact ⟨rfl, rfl, rfl, rfl, rfl, rfl, rfl⟩
theorem State.SameLegal.readPulse (s : State) : s.SameLegal s.readPulse := by
  rw [State.readPulse_eq]; exact ⟨rfl, rfl, rfl, rfl, rfl, rfl, rfl⟩
theorem State.SameLegal.sendCommand (s : State) (b : Byte) : s.SameLegal (s.sendCommand b) := by
  rw [State.sendCommand_eq]; exact ⟨rfl, rfl, rfl, rfl, rfl, rfl, rfl⟩
theorem State.SameLegal.sendWord (s : State) : s.SameLegal s.sendWord := by
  rw [State.sendWord_eq]; exact ⟨rfl, rfl, rfl, rfl, rfl, rfl, rfl⟩
theorem State.SameLegal.readWord (s : State) : s.SameLegal s.readWord := by
  rw [State.readWord_eq]; exact ⟨rfl, rfl, rfl, rfl, rfl, rfl, rfl⟩
theorem State.SameLegal.updatePixel (s : State) (p : Fin 3) (on : Bool) : s.SameLegal (s.updatePixel p on) := by
  rw [State.updatePixel_eq s p on rfl rfl rfl]; exact ⟨rfl, rfl, rfl, rfl, rfl, rfl, rfl⟩

theorem State.RegistersInv.of_same {s t : State} (h : s.RegistersInv) (hs : s.SameLegal t) : t.RegistersInv := by
  obtain ⟨hcol, hrow, hpos, hfc, hfr, hst, -⟩ := h
  obtain ⟨e1, e2, e3, e4, e5, e6, e7⟩ := hs
  exact ⟨e1 ▸ hcol, e2 ▸ hrow, e3 ▸ hpos, e4 ▸ hfc, e5 ▸ hfr, e6 ▸ hst, e7⟩

theorem State.RegistersInv.sendCommands {s : State} (h : s.RegistersInv) (bs : List Byte) :
    (s.sendCommands bs).RegistersInv := by
  induction bs generalizing s with
  | nil => exact h
  | cons b bs ih => exact ih (h.of_same (State.SameLegal.sendCommand s b))

theorem State.RegistersInv.writeWord {s : State} (h : s.RegistersInv) (v : Word) : (s.writeWord v).RegistersInv :=
  State.RegistersInv.of_same (s := s.setW v) h (State.SameLegal.sendWord _)

theorem State.RegistersInv.setCol {s : State} (h : s.RegistersInv) {c : BitVec 7} (hc : inRangeColumn c.toNat = true) :
    (s.setCol c).RegistersInv := by
  obtain ⟨-, hrest⟩ := h
  exact ⟨.inr hc, hrest⟩

theorem State.RegistersInv.setRow {s : State} (h : s.RegistersInv) {r : BitVec 8} (hr : inRangeRow r.toNat = true) :
    (s.setRow r).RegistersInv := by
  obtain ⟨hcol, -, hrest⟩ := h
  exact ⟨hcol, hr, hrest⟩

theorem State.RegistersInv.setPos {s : State} (h : s.RegistersInv) {p : BitVec 2} (hp : p ≠ 3#2) :
    (s.setPos p).RegistersInv := by
  obtain ⟨hcol, hrow, -, hrest⟩ := h
  exact ⟨hcol, hrow, hp, hrest⟩

theorem State.RegistersInv.setRdata {s : State} (h : s.RegistersInv) (v : Word) : (s.setRdata v).RegistersInv := h

theorem positionBits_ne_three (p : Fin 3) : positionBits p ≠ 3#2 := by
  revert p; decide

/-- A number in the range of the columns fits `COL` (R15, R72). -/
theorem toNat_ofNat_column {n : Nat} (h : inRangeColumn n = true) : (BitVec.ofNat 7 n).toNat = n := by
  have hn : 37 ≤ n ∧ n ≤ 90 := of_decide_eq_true h
  simp only [BitVec.toNat_ofNat]
  omega

/-- The registers of an accepted `DRAWPIXEL` are in range (R72, R75). -/
theorem State.RegistersInv.setTarget {s : State} (h : s.RegistersInv) {x y : Byte} (hy : inRangeRow (pixelRow y) = true)
    (hx : inRangeColumn (pixelColumn x s.mirror.my) = true) : (s.setTarget x y).RegistersInv := by
  refine State.RegistersInv.setPos (State.RegistersInv.setCol (h.setRow ?_) ?_) (positionBits_ne_three _)
  · simpa [pixelRow] using hy
  · rwa [toNat_ofNat_column hx]

/-- `FILLSCREEN` ends with the last column and row in its registers and counters, whatever stood there (R76e). -/
theorem State.RegistersInv.fillWindow {s : State} (h : s.RegistersInv) : s.fillWindow.RegistersInv := by
  obtain ⟨-, -, hpos, -, -, hst, -⟩ := h
  have hc : inRangeColumn (90#7).toNat = true := by decide
  have hr : inRangeRow (159#8).toNat = true := by decide
  rw [State.fillWindow_eq]
  exact ⟨.inr hc, hr, hpos, .inr hc, hr, hst, rfl⟩

/-- The actions of an accepted instruction leave legal values in the registers (R15, R72). -/
theorem State.RegistersInv.perform {s : State} (h : s.RegistersInv) {i : Instr} (ha : s.rejectCause i = none) :
    (s.perform i).RegistersInv := by
  cases i with
  | setDir o => exact h
  | wrb v => exact h.of_same (State.SameLegal.writePulse s v)
  | rdb => exact (h.of_same (State.SameLegal.readPulse s)).setRdata _
  | selChip a => exact h
  | selCmd k => exact h
  | setRst a => exact h
  | wrWord v => exact h.writeWord v
  | rdWord => exact (h.of_same (State.SameLegal.readWord s)).setRdata _
  | setCol c =>
    have hc : inRangeColumn c.toNat = true := by simpa [State.rejectCause] using ha
    have hs : (s.setCol (c.setWidth 7)).RegistersInv := h.setCol (by
      show inRangeColumn (BitVec.ofNat 7 c.toNat).toNat = true
      rwa [toNat_ofNat_column hc])
    exact hs.sendCommands (columnBytes _)
  | setRow r =>
    have hr : inRangeRow r.toNat = true := by simpa [State.rejectCause] using ha
    exact (h.setRow hr).sendCommands (rowBytes _)
  | drawPixel x y on =>
    have hxy : inRangeRow (pixelRow y) = true ∧ inRangeColumn (pixelColumn x s.mirror.my) = true := by
      simpa [State.rejectCause] using ha
    exact (h.setTarget hxy.1 hxy.2).of_same (State.SameLegal.updatePixel _ _ on)
  | fillScreen on => exact State.RegistersInv.fillWindow (s := s.setW _) h
  | drawTriplet p1 p2 p3 => exact h.writeWord _
  | setMap mx my => exact h.sendCommands (Instr.setMap mx my).commandBytes
  | sysReset => exact (h.sendCommands Instr.sysReset.commandBytes).of_same ⟨rfl, rfl, rfl, rfl, rfl, rfl, rfl⟩
  | _ => exact h.sendCommands _

/-! ### Every step -/

/-- The response changes none of the invariant's fields but `STATUS`, which takes one of its four codes (R17). -/
theorem State.Inv.finish {s : State} (h : s.Inv) {status : BitVec 3} (hs : status.toNat ≤ 3) : (s.finish status).Inv := by
  obtain ⟨hl, ⟨hcol, hrow, hpos, hfc, hfr, -, ht⟩, hm⟩ := h
  exact ⟨hl, ⟨hcol, hrow, hpos, hfc, hfr, hs, ht⟩, hm⟩

theorem State.Inv.reject {s : State} (h : s.Inv) (c : RejectCause) : (s.reject c).Inv :=
  h.finish (by cases c <;> decide)

theorem State.Inv.perform {s : State} (h : s.Inv) {i : Instr} (ha : s.rejectCause i = none) : (s.perform i).Inv := by
  obtain ⟨hl, hr, hm⟩ := h
  obtain ⟨es, hran, hk⟩ := s.perform_ran i
  exact ⟨hl.of_ran hran hk, hr.perform ha, hm.of_ran hran⟩

theorem State.Inv.outcome {s : State} (h : s.Inv) (i : Instr) : (s.outcome i).Inv := by
  cases hc : s.rejectCause i with
  | some c => rw [State.outcome_of_rejected hc]; exact h.reject c
  | none => rw [State.outcome_of_accepted hc]; exact (h.perform hc).finish (by decide)

theorem State.reset_inv : State.reset.Inv := by
  refine ⟨⟨⟨rfl, rfl, rfl⟩, rfl, rfl⟩, ?_, Memory.wf_nil⟩
  unfold State.RegistersInv
  decide

/-- The block reset gives the block the lines and registers of reset; of the invariant it leaves the device's part alone (R97). -/
theorem State.Inv.of_blockReset {s : State} (hm : s.MemoryInv) : s.blockReset.Inv := by
  obtain ⟨hl, hr, -⟩ := State.reset_inv
  exact ⟨hl, hr, hm⟩

/-- The host's moves keep the invariant: acceptance and a pause change none of its fields, either block reset restores the
block, and a device that was cut off has forgotten its RAM (R97, R98, R115). -/
theorem State.Inv.meetHost {s : State} (h : s.Inv) : s.meetHost.Inv := by
  unfold State.meetHost
  split
  · exact h
  · exact h
  · exact h
  · obtain ⟨-, -, hm⟩ := h
    exact State.Inv.of_blockReset hm
  · exact State.Inv.of_blockReset (s := { s with dev := s.dev.lost }) Memory.wf_nil

theorem State.Inv.step {s t : State} (h : s.Inv) (hst : step s = .next t) : t.Inv := by
  cases hb : s.busy with
  | false =>
    rw [step_of_idle hb] at hst
    cases hst
    exact h.meetHost
  | true =>
    rcases step_of_busy hb with hs | ⟨i, -, hs⟩
    · rw [hs] at hst
      cases hst
      exact h.reject _
    · rw [hs] at hst
      cases hst
      exact h.outcome i

/-- Settles O49: a step is the host's move, a reject or an instruction's outcome; the actions of an instruction are events that
keep the strobe discipline and the RAM's canonical form, and its registers take values the range check let pass. -/
theorem stepKeepsTheInvariant : Obligations.StepKeepsTheInvariant :=
  fun _ _ h hst => h.step hst

/-- Settles O50: the trace is empty, the lines are released and every register holds 0. -/
theorem resetMeetsTheInvariant : Obligations.ResetMeetsTheInvariant := State.reset_inv

end Sys2Proof.Machine
end

section
/-! PROOFS. The sequencer, and which instruction writes what (10_state.md R12, R14, R16, R17, R20). -/

namespace Sys2Proof.Machine

/-! ### What the actions keep -/

theorem State.Kept.mirror_eq {s t : State} (h : s.Kept t) : t.mirror = s.mirror := by
  obtain ⟨-, -, -, -, hm, -⟩ := h
  exact hm

theorem State.Kept.rdata_eq {s t : State} (h : s.Kept t) : t.rdata = s.rdata := by
  obtain ⟨-, -, -, hr, -⟩ := h
  exact hr

/-- Every instruction but the writers of `MIRROR` and `RDATA` leaves what no action sequence touches. -/
theorem State.perform_kept (s : State) {i : Instr} (h1 : ∀ mx my, i ≠ .setMap mx my) (h2 : i ≠ .rdb) (h3 : i ≠ .rdWord) :
    s.Kept (s.perform i) := by
  have self : s.Kept s := State.Kept.refl s
  cases i with
  | setDir o => exact self
  | wrb v => exact State.Kept.writePulse s v
  | rdb => exact absurd rfl h2
  | selChip a => exact self
  | selCmd k => exact self
  | setRst a => exact self
  | wrWord v => exact State.Kept.writeWord s v
  | rdWord => exact absurd rfl h3
  | setCol c => exact State.Kept.trans (t := s.setCol (c.setWidth 7)) self (State.Kept.sendColumn _)
  | setRow r => exact State.Kept.trans (t := s.setRow r) self (State.Kept.sendRow _)
  | drawPixel x y on => exact State.Kept.trans (t := s.setTarget x y) self (State.Kept.updatePixel _ _ on)
  | fillScreen on => exact State.Kept.trans (t := s.setW (packWord on on on)) self (State.Kept.fillWindow _)
  | drawTriplet p1 p2 p3 => exact State.Kept.writeWord s _
  | setMap mx my => exact absurd rfl (h1 mx my)
  | sysReset => exact State.Kept.sendCommands s Instr.sysReset.commandBytes
  | _ => exact State.Kept.sendCommands s _

/-- `SETMAP` alone writes `MIRROR` (R14). -/
theorem State.perform_mirror (s : State) {i : Instr} (h : ∀ mx my, i ≠ .setMap mx my) :
    (s.perform i).mirror = s.mirror := by
  by_cases h2 : i = .rdb
  · subst h2; exact (State.setRdata_mirror _ _).trans (State.Kept.readPulse s).mirror_eq
  by_cases h3 : i = .rdWord
  · subst h3; exact (State.setRdata_mirror _ _).trans (State.Kept.readWord s).mirror_eq
  exact (s.perform_kept h h2 h3).mirror_eq

/-- `RDB` and `RDWORD` alone write `RDATA` (R17). -/
theorem State.perform_rdata (s : State) {i : Instr} (h2 : i ≠ .rdb) (h3 : i ≠ .rdWord) :
    (s.perform i).rdata = s.rdata := by
  by_cases h : ∃ mx my, i = .setMap mx my
  · obtain ⟨mx, my, rfl⟩ := h
    exact (State.Kept.sendCommands s (Instr.setMap mx my).commandBytes).rdata_eq
  · exact (s.perform_kept (fun mx my e => h ⟨mx, my, e⟩) h2 h3).rdata_eq

/-- The fields that no instruction's actions write: the host's side, `OP`, the record of the run (R16). -/
def State.KeptByAll (s t : State) : Prop :=
  t.host = s.host ∧ t.responses = s.responses ∧ t.op = s.op ∧ t.accepted = s.accepted

theorem State.Kept.keptByAll {s t : State} (h : s.Kept t) : s.KeptByAll t := by
  obtain ⟨hhost, hresp, hop, -, -, -, -, hacc⟩ := h
  exact ⟨hhost, hresp, hop, hacc⟩

theorem State.KeptByAll.setRdata {s t : State} (h : s.KeptByAll t) (v : Word) : s.KeptByAll (t.setRdata v) := h

theorem State.KeptByAll.setMirror {s t : State} (h : s.KeptByAll t) (mx my : Bool) :
    s.KeptByAll (t.setMirror mx my) := h

theorem State.perform_keptByAll (s : State) (i : Instr) : s.KeptByAll (s.perform i) := by
  by_cases h1 : ∃ mx my, i = .setMap mx my
  · obtain ⟨mx, my, rfl⟩ := h1
    exact (State.Kept.sendCommands s _).keptByAll.setMirror mx my
  by_cases h2 : i = .rdb
  · subst h2; exact (State.Kept.readPulse s).keptByAll.setRdata _
  by_cases h3 : i = .rdWord
  · subst h3; exact (State.Kept.readWord s).keptByAll.setRdata _
  exact (s.perform_kept (fun mx my e => h1 ⟨mx, my, e⟩) h2 h3).keptByAll

/-! ### The response -/

/-- `BUSY` returns to 0, one response of `STATUS` and `RDATA` is given, and the host's moves and the record of the run are as
before (R16, R17, R114). -/
def State.Answered (s t : State) : Prop :=
  t.busy = false ∧ t.host = s.host ∧ t.accepted = s.accepted ∧
  t.responses = s.responses ++ [responseWord t.status t.rdata]

theorem State.KeptByAll.finish {s t : State} (h : s.KeptByAll t) (status : BitVec 3) : s.Answered (t.finish status) := by
  obtain ⟨hhost, hresp, -, hacc⟩ := h
  exact ⟨rfl, hhost, hacc, congrArg (· ++ [responseWord status t.rdata]) hresp⟩

theorem State.answered_reject (s : State) (c : RejectCause) : s.Answered (s.reject c) := ⟨rfl, rfl, rfl, rfl⟩

theorem State.answered_outcome (s : State) (i : Instr) : s.Answered (s.outcome i) := by
  cases hc : s.rejectCause i with
  | some c => rw [State.outcome_of_rejected hc]; exact s.answered_reject c
  | none => rw [State.outcome_of_accepted hc]; exact (s.perform_keptByAll i).finish _

/-- Settles O15: an idle block accepts, and both ways a busy step can end give one response. -/
theorem requestIsAcceptedAndAnswered : Obligations.RequestIsAcceptedAndAnswered := by
  refine ⟨fun s r ms hb hh => ?_, fun s hb => ?_⟩
  · rw [step_of_idle hb]
    simp [State.meetHost, hh, State.accept, State.dropMove]
  · rcases step_of_busy hb with hs | ⟨i, -, hs⟩
    · exact ⟨_, hs, s.answered_reject _⟩
    · exact ⟨_, hs, s.answered_outcome i⟩

/-- Settles O12: the busy step decodes `OP` and runs what it decodes. -/
theorem stepRunsTheDecodedInstruction : Obligations.StepRunsTheDecodedInstruction := by
  intro s i hb hi
  simp [step, hb, State.runOp, hi]

/-- Settles O51: no move of the host is pending, so the idle step keeps the state. -/
theorem resetLeavesTheBlockIdle : Obligations.ResetLeavesTheBlockIdle :=
  ⟨rfl, rfl, rfl, rfl, rfl, rfl, rfl, rfl, rfl, step_of_idle rfl⟩

/-- Settles O53: the writers of `MIRROR` and `RDATA` are the only exceptions to what every action sequence keeps. -/
theorem controlRegistersHaveOneWriter : Obligations.ControlRegistersHaveOneWriter := by
  intro i s t h
  rw [exec_eq_outcome] at h
  cases h
  cases hc : s.rejectCause i with
  | some c => rw [State.outcome_of_rejected hc]; exact ⟨fun _ => rfl, fun _ _ => rfl, rfl, rfl⟩
  | none =>
    rw [State.outcome_of_accepted hc]
    obtain ⟨-, -, hop, hacc⟩ := s.perform_keptByAll i
    exact ⟨fun h1 => s.perform_mirror h1, fun h2 h3 => s.perform_rdata h2 h3, hop, hacc⟩

/-! ### Chip-select -/

/-- The instructions that are not one primitive of the bus (40): each selects the chip for itself (R12c). -/
def composite (i : Instr) : Bool :=
  match i with
  | .setDir _ | .wrb _ | .rdb | .selChip _ | .selCmd _ | .setRst _ => false
  | _ => true

theorem State.sendCommands_cs {s : State} (h : s.bus.cs = false) (bs : List Byte) : (s.sendCommands bs).bus.cs = false := by
  induction bs generalizing s with
  | nil => exact h
  | cons b bs ih => exact ih rfl

theorem State.sendCommands_cons_cs (s : State) (b : Byte) (bs : List Byte) :
    (s.sendCommands (b :: bs)).bus.cs = false :=
  State.sendCommands_cs (s := s.sendCommand b) rfl bs

/-- The actions of a composite instruction release chip-select last (R12c). -/
theorem State.perform_composite_cs (s : State) {i : Instr} (h : composite i = true) : (s.perform i).bus.cs = false := by
  cases i with
  | setDir _ | wrb _ | rdb | selChip _ | selCmd _ | setRst _ => cases h
  | wrWord v => exact congrArg (·.bus.cs) (State.sendWord_eq (s.setW v))
  | rdWord => exact congrArg (·.bus.cs) (State.readWord_eq s)
  | setCol c => exact congrArg (·.bus.cs) (State.sendColumn_eq _)
  | setRow r => exact congrArg (·.bus.cs) (State.sendRow_eq _)
  | drawPixel x y on => exact congrArg (·.bus.cs) (State.updatePixel_eq _ _ on rfl rfl rfl)
  | fillScreen on => exact congrArg (·.bus.cs) (State.fillWindow_eq _)
  | drawTriplet p1 p2 p3 => exact congrArg (·.bus.cs) (State.sendWord_eq (s.setW _))
  | setMap mx my => exact s.sendCommands_cons_cs _ _
  | sysReset => exact (congrArg Bus.cs (State.hold_bus _ _)).trans (s.sendCommands_cons_cs _ _)
  | _ => exact s.sendCommands_cons_cs _ _

/-- Beside `SELCHIP 1` no instruction asserts chip-select and leaves it so (R12c). -/
theorem State.perform_cs {s : State} (h : s.bus.cs = false) {i : Instr} (hi : i ≠ .selChip true) :
    (s.perform i).bus.cs = false := by
  cases i with
  | setDir o => exact h
  | wrb v => exact (congrArg (·.bus.cs) (State.writePulse_eq s v)).trans h
  | rdb => exact (congrArg (·.bus.cs) (State.readPulse_eq s)).trans h
  | selChip a =>
    cases a with
    | false => rfl
    | true => exact absurd rfl hi
  | selCmd k => exact h
  | setRst a => exact h
  | _ => exact s.perform_composite_cs rfl

theorem rejectCode_ne_ok (c : RejectCause) : rejectCode c ≠ 0#3 := by
  cases c <;> decide

/-- Settles O52: a composite instruction releases chip-select last, a reject changes no line, and of the primitives `SELCHIP` alone
writes it. -/
theorem chipSelectIsReleased : Obligations.ChipSelectIsReleased := by
  intro i s t h
  rw [exec_eq_outcome] at h
  cases h
  cases hc : s.rejectCause i with
  | some c =>
    rw [State.outcome_of_rejected hc]
    exact ⟨fun _ hcs => hcs, fun hok => absurd hok (rejectCode_ne_ok c)⟩
  | none =>
    rw [State.outcome_of_accepted hc]
    refine ⟨fun hi hcs => State.perform_cs hcs hi, fun _ h1 h2 h3 h4 h5 h6 => s.perform_composite_cs ?_⟩
    cases i with
    | setDir o => exact absurd rfl (h4 o)
    | wrb v => exact absurd rfl (h5 v)
    | rdb => exact absurd rfl h6
    | selChip a => exact absurd rfl (h1 a)
    | selCmd k => exact absurd rfl (h2 k)
    | setRst a => exact absurd rfl (h3 a)
    | _ => rfl

end Sys2Proof.Machine
end

section
/-! PROOFS. Noninterference: `MX` affects nothing but itself (10_state.md R14), and no instruction reads a working register that
an earlier one wrote (R15). Each shared sequence is shown to commute with an overlay of the registers concerned. -/

namespace Sys2Proof.Machine

/-! ### An overlay of `MIRROR` -/

/-- The state with another `MIRROR`. -/
def State.withMirror (s : State) (m : Mirror) : State := { s with mirror := m }

theorem State.writePulse_withMirror (s : State) (m : Mirror) (v : Byte) :
    (s.withMirror m).writePulse v = (s.writePulse v).withMirror m := by
  simp only [State.writePulse_eq]; rfl

theorem State.readPulse_withMirror (s : State) (m : Mirror) : (s.withMirror m).readPulse = s.readPulse.withMirror m := by
  simp only [State.readPulse_eq]; rfl

theorem State.sendCommands_withMirror (s : State) (m : Mirror) (bs : List Byte) :
    (s.withMirror m).sendCommands bs = (s.sendCommands bs).withMirror m := by
  induction bs generalizing s with
  | nil => rfl
  | cons b bs ih =>
    have hb : (s.withMirror m).sendCommand b = (s.sendCommand b).withMirror m := by
      simp only [State.sendCommand_eq]; rfl
    show ((s.withMirror m).sendCommand b).sendCommands bs = _
    rw [hb, ih]; rfl

theorem State.sendAddress_withMirror (s : State) (m : Mirror) :
    (s.withMirror m).sendAddress = s.sendAddress.withMirror m :=
  s.sendCommands_withMirror m (addressBytes s.col s.row)

theorem State.sendWord_withMirror (s : State) (m : Mirror) : (s.withMirror m).sendWord = s.sendWord.withMirror m := by
  simp only [State.sendWord_eq]; rfl

theorem State.selected_withMirror (s : State) (m : Mirror) : (s.withMirror m).selected = s.selected.withMirror m := rfl

theorem State.readWord_withMirror (s : State) (m : Mirror) : (s.withMirror m).readWord = s.readWord.withMirror m := by
  simp only [State.readWord_eq, State.dummyByte, State.highRead, State.lowRead, State.selected_withMirror,
    State.readPulse_withMirror]
  rfl

theorem State.updatePixel_withMirror (s : State) (m : Mirror) (p : Fin 3) (on : Bool) :
    (s.withMirror m).updatePixel p on = (s.updatePixel p on).withMirror m := by
  have hmod (u : State) : (u.withMirror m).modifyW p on = (u.modifyW p on).withMirror m := rfl
  simp only [State.updatePixel, State.sendAddress_withMirror, State.readWord_withMirror, hmod, State.sendWord_withMirror]

theorem State.fillWindow_withMirror (s : State) (m : Mirror) :
    (s.withMirror m).fillWindow = s.fillWindow.withMirror m := by
  simp only [State.fillWindow_eq]; rfl

theorem State.setTarget_withMirror {s : State} {m : Mirror} (hm : m.my = s.mirror.my) (x y : Byte) :
    (s.withMirror m).setTarget x y = (s.setTarget x y).withMirror m := by
  have e : (s.withMirror m).mirror.my = s.mirror.my := hm
  simp only [State.setTarget, e]
  rfl

theorem State.perform_drawPixel (s : State) (x y : Byte) (on : Bool) :
    s.perform (.drawPixel x y on) = (s.setTarget x y).updatePixel (subPosition x s.mirror.my) on := rfl

/-- `DRAWPIXEL` reads `MIRROR.MY`; nothing else reads `MIRROR`, and `SETMAP` alone writes it (R14). -/
theorem State.perform_withMirror {s : State} {m : Mirror} (hm : m.my = s.mirror.my) {i : Instr}
    (hi : ∀ mx my, i ≠ .setMap mx my) : (s.withMirror m).perform i = (s.perform i).withMirror m := by
  cases i with
  | setDir o => rfl
  | wrb v => exact s.writePulse_withMirror m v
  | rdb => exact congrArg State.rdataFromDin (s.readPulse_withMirror m)
  | selChip a => rfl
  | selCmd k => rfl
  | setRst a => rfl
  | wrWord v => exact (s.setW v).sendWord_withMirror m
  | rdWord => exact congrArg State.rdataFromW (s.readWord_withMirror m)
  | setCol c => exact (s.setCol (c.setWidth 7)).sendCommands_withMirror m (columnBytes (c.setWidth 7))
  | setRow r => exact (s.setRow r).sendCommands_withMirror m (rowBytes r)
  | drawPixel x y on =>
    have e : (s.withMirror m).mirror.my = s.mirror.my := hm
    rw [State.perform_drawPixel, e, State.setTarget_withMirror hm, State.updatePixel_withMirror, State.perform_drawPixel]
  | fillScreen on => exact (s.setW (packWord on on on)).fillWindow_withMirror m
  | drawTriplet p1 p2 p3 => exact (s.setW (packWord p1 p2 p3)).sendWord_withMirror m
  | setMap mx my => exact absurd rfl (hi mx my)
  | sysReset => 
    have hhold (u : State) (n : Nat) : (u.withMirror m).hold n = (u.hold n).withMirror m := rfl
    exact (congrArg (State.hold · _) (s.sendCommands_withMirror m Instr.sysReset.commandBytes)).trans (hhold _ _)
  | _ => exact s.sendCommands_withMirror m _

theorem State.rejectCause_withMirror {s : State} {m : Mirror} (hm : m.my = s.mirror.my) (i : Instr) :
    (s.withMirror m).rejectCause i = s.rejectCause i := by
  have e : (s.withMirror m).mirror.my = s.mirror.my := hm
  cases i with
  | drawPixel x y on => simp only [State.rejectCause, e]
  | _ => rfl

/-- `SETMAP` writes the whole of `MIRROR` and reads nothing of it (R82). -/
theorem State.perform_setMap_withMirror (s : State) (m : Mirror) (mx my : Bool) :
    (s.withMirror m).perform (.setMap mx my) = s.perform (.setMap mx my) :=
  (congrArg (State.setMirror · mx my) (s.sendCommands_withMirror m (Instr.setMap mx my).commandBytes)).trans rfl

/-- Settles O56: `SETMAP` overwrites `MIRROR`, and every other instruction commutes with a change of `MX`. -/
theorem mirrorXAffectsNothing : Obligations.MirrorXAffectsNothing := by
  intro i s b
  have hm : (Mirror.mk b s.mirror.my).my = s.mirror.my := rfl
  refine ⟨_, _, exec_eq_outcome i s, exec_eq_outcome i (s.withMirror (Mirror.mk b s.mirror.my)), ?_⟩
  cases hc : s.rejectCause i with
  | some c =>
    rw [State.outcome_of_rejected hc, State.outcome_of_rejected ((State.rejectCause_withMirror hm i).trans hc)]
    exact ⟨rfl, rfl⟩
  | none =>
    rw [State.outcome_of_accepted hc, State.outcome_of_accepted ((State.rejectCause_withMirror hm i).trans hc)]
    by_cases hi : ∃ mx my, i = .setMap mx my
    · obtain ⟨mx, my, rfl⟩ := hi
      rw [State.perform_setMap_withMirror]
      exact ⟨rfl, rfl⟩
    · have hi' : ∀ mx my, i ≠ .setMap mx my := fun mx my e => hi ⟨mx, my, e⟩
      rw [State.perform_withMirror hm hi']
      exact ⟨rfl, hm.trans (congrArg Mirror.my (s.perform_mirror hi')).symm⟩

/-! ### An overlay of the working registers -/

/-- The state with other working registers. -/
def State.withWorking (s : State) (row : BitVec 8) (col : BitVec 7) (pos : BitVec 2) (w : Word) (din : Byte) : State :=
  { s with row := row, col := col, pos := pos, w := w, din := din }

section
variable (s : State) (row : BitVec 8) (col : BitVec 7) (pos : BitVec 2) (w : Word) (din : Byte)

theorem State.withWorking_self : s.withWorking s.row s.col s.pos s.w s.din = s := rfl

theorem State.writePulse_withWorking (v : Byte) :
    (s.withWorking row col pos w din).writePulse v = (s.writePulse v).withWorking row col pos w din := by
  simp only [State.writePulse_eq]; rfl

theorem State.readPulse_withWorking :
    (s.withWorking row col pos w din).readPulse = s.readPulse.withWorking row col pos w s.readPulse.din := by
  simp only [State.readPulse_eq]; rfl

theorem State.sendCommands_withWorking (bs : List Byte) :
    (s.withWorking row col pos w din).sendCommands bs = (s.sendCommands bs).withWorking row col pos w din := by
  induction bs generalizing s with
  | nil => rfl
  | cons b bs ih =>
    have hb : (s.withWorking row col pos w din).sendCommand b = (s.sendCommand b).withWorking row col pos w din := by
      simp only [State.sendCommand_eq]; rfl
    show ((s.withWorking row col pos w din).sendCommand b).sendCommands bs = _
    rw [hb, ih]; rfl

theorem State.sendColumn_withWorking :
    (s.withWorking row col pos w din).sendColumn = ((s.setCol col).sendColumn).withWorking row col pos w din :=
  (s.setCol col).sendCommands_withWorking row col pos w din (columnBytes col)

theorem State.sendRow_withWorking :
    (s.withWorking row col pos w din).sendRow = ((s.setRow row).sendRow).withWorking row col pos w din :=
  (s.setRow row).sendCommands_withWorking row col pos w din (rowBytes row)

theorem State.writeWord_withWorking (v : Word) :
    (s.withWorking row col pos w din).writeWord v = (s.writeWord v).withWorking row col pos v din := by
  simp only [State.writeWord, State.sendWord_eq]; rfl

theorem State.selected_withWorking :
    (s.withWorking row col pos w din).selected = s.selected.withWorking row col pos w din := rfl

theorem State.readWord_withWorking :
    (s.withWorking row col pos w din).readWord = s.readWord.withWorking row col pos s.readWord.w s.readWord.din := by
  simp only [State.readWord_eq, State.dummyByte, State.highRead, State.lowRead, State.selected_withWorking,
    State.readPulse_withWorking]
  rfl

theorem State.fillWindow_withWorking :
    (s.withWorking row col pos w din).fillWindow = (s.setW w).fillWindow.withWorking 159#8 90#7 pos w din := by
  simp only [State.fillWindow_eq]; rfl

/-- `RDWORD` writes `W` and `DIN` before anything reads them (R64). -/
theorem State.readWord_overwrites : (s.withWorking s.row s.col s.pos w din).readWord = s.readWord := by
  rw [State.readWord_withWorking, State.readWord_eq]; rfl

theorem State.sendAddress_withWorking :
    (s.withWorking s.row s.col pos w din).sendAddress = s.sendAddress.withWorking s.row s.col pos w din :=
  s.sendCommands_withWorking s.row s.col pos w din (addressBytes s.col s.row)

/-- `DRAWPIXEL` writes `W` and `DIN` by its read, before anything reads them (R75). -/
theorem State.updatePixel_overwrites (p : Fin 3) (on : Bool) :
    (s.withWorking s.row s.col s.pos w din).updatePixel p on = s.updatePixel p on := by
  have h : (s.withWorking s.row s.col s.pos w din).sendAddress.readWord = s.sendAddress.readWord := by
    rw [State.sendAddress_withWorking]
    exact s.sendAddress.readWord_overwrites w din
  simp only [State.updatePixel, h]

/-- The state after an instruction's actions, whatever the working registers held before: the same but for the working
registers. -/
theorem State.perform_withWorking (i : Instr) : ∃ row' col' pos' w' din',
    (s.withWorking row col pos w din).perform i = (s.perform i).withWorking row' col' pos' w' din' := by
  cases i with
  | setDir o => exact ⟨row, col, pos, w, din, rfl⟩
  | wrb v => exact ⟨_, _, _, _, _, s.writePulse_withWorking row col pos w din v⟩
  | rdb => 
    exact ⟨row, col, pos, w, s.readPulse.din,
      (congrArg State.rdataFromDin (s.readPulse_withWorking row col pos w din)).trans rfl⟩
  | selChip a => exact ⟨row, col, pos, w, din, rfl⟩
  | selCmd k => exact ⟨row, col, pos, w, din, rfl⟩
  | setRst a => exact ⟨row, col, pos, w, din, rfl⟩
  | wrWord v => exact ⟨_, _, _, _, _, s.writeWord_withWorking row col pos w din v⟩
  | rdWord => 
    exact ⟨row, col, pos, s.readWord.w, s.readWord.din,
      (congrArg State.rdataFromW (s.readWord_withWorking row col pos w din)).trans rfl⟩
  | setCol c => exact ⟨_, _, _, _, _, s.sendColumn_withWorking row (c.setWidth 7) pos w din⟩
  | setRow r => exact ⟨_, _, _, _, _, s.sendRow_withWorking r col pos w din⟩
  | drawPixel x y on =>
    have h : (s.withWorking row col pos w din).perform (.drawPixel x y on) = s.perform (.drawPixel x y on) :=
      (s.setTarget x y).updatePixel_overwrites w din (subPosition x s.mirror.my) on
    rw [h]
    exact ⟨_, _, _, _, _, (s.perform (.drawPixel x y on)).withWorking_self.symm⟩
  | fillScreen on => exact ⟨_, _, _, _, _, s.fillWindow_withWorking row col pos (packWord on on on) din⟩
  | drawTriplet p1 p2 p3 => exact ⟨_, _, _, _, _, s.writeWord_withWorking row col pos w din _⟩
  | setMap mx my =>
    exact ⟨row, col, pos, w, din, (congrArg (State.setMirror · mx my)
      (s.sendCommands_withWorking row col pos w din (Instr.setMap mx my).commandBytes)).trans rfl⟩
  | sysReset =>
    have hhold (u : State) (n : Nat) :
        (u.withWorking row col pos w din).hold n = (u.hold n).withWorking row col pos w din := rfl
    exact ⟨_, _, _, _, _, (congrArg (State.hold · _)
      (s.sendCommands_withWorking row col pos w din Instr.sysReset.commandBytes)).trans (hhold _ _)⟩
  | _ => exact ⟨_, _, _, _, _, s.sendCommands_withWorking row col pos w din _⟩

theorem State.rejectCause_withWorking (i : Instr) :
    (s.withWorking row col pos w din).rejectCause i = s.rejectCause i := by
  cases i <;> rfl

end

/-- Settles O57: every working register an instruction reads it has written before; what it reads besides is not changed by the
overlay. -/
theorem workingRegistersAreTemporaries : Obligations.WorkingRegistersAreTemporaries := by
  intro i s row col pos w din
  have hr := s.rejectCause_withWorking row col pos w din i
  refine ⟨_, _, exec_eq_outcome i s, exec_eq_outcome i (s.withWorking row col pos w din), ?_⟩
  cases hc : s.rejectCause i with
  | some c => rw [State.outcome_of_rejected hc, State.outcome_of_rejected (hr.trans hc)]; rfl
  | none =>
    obtain ⟨row', col', pos', w', din', h⟩ := s.perform_withWorking row col pos w din i
    rw [State.outcome_of_accepted hc, State.outcome_of_accepted (hr.trans hc), h]
    rfl

end Sys2Proof.Machine
end

section
/-! PROOFS. How the device takes one transfer (20_memory.md R36 to R38): an equation per phase, an equation per class of command
byte. -/

namespace Sys2Proof.Machine

/-! ### Data writes -/

/-- The second data write of a word (R37b). -/
theorem Device.receive_secondByte {d : Device} {h : Byte} (hp : d.ph = .w1 h) (b : Byte) :
    d.receive (.write false b) =
      { (if d.inWindow then d.writeWord h b else d.havocRam).advance with ph := .n, access := d.access.next } := by
  simp [Device.receive, Device.dataWrite, hp]

/-- A data write out of discipline (R37c). -/
theorem Device.receive_strayWrite {d : Device} (hp : d.ph ∈ [.a0, .a1, .a2, .a3, .r1, .r2, .u]) (b : Byte) :
    d.receive (.write false b) = { d.havocRam with ph := .u } := by
  simp only [List.mem_cons, List.not_mem_nil, or_false] at hp
  rcases hp with hp | hp | hp | hp | hp | hp | hp <;> simp [Device.receive, Device.dataWrite, hp]

/-- Settles O39: the three clauses are the first byte of a word, the second, and a byte out of discipline. -/
theorem dataWritesFollowThePhase : Obligations.DataWritesFollowThePhase := by
  intro d b
  refine ⟨fun hp => ?_, ?_, ?_⟩
  · obtain ⟨a, h, -⟩ := d.beginWord b hp
    exact ⟨a, h⟩
  · rintro h e hp rfl
    rw [Device.receive_secondByte hp]
    cases hw : d.inWindow with
    | true =>
      have hm := d.writeWord_mem h b
      have hc : (d.writeWord h b).advance.ccol = d.ccol + 1 := by rw [Device.advance_ccol, Device.writeWord_ccol]
      exact ⟨rfl, d.writeWord_crow h b, hc, d.writeWord_vb h b,
        fun _ => ⟨Device.word_of_store hm, Device.sameRamBut_of_store hm (d.writeWord_epoch h b)⟩, nofun⟩
    | false => exact ⟨rfl, rfl, d.havocRam.advance_ccol, rfl, nofun, fun _ => ⟨rfl, rfl⟩⟩
  · rintro hp e rfl
    rw [Device.receive_strayWrite hp]
    exact ⟨rfl, rfl, rfl, rfl, rfl, rfl⟩

/-! ### Reads -/

/-- The byte a read returns is fixed only after the dummy byte, in the window (R38). -/
theorem Device.readValue_none {d : Device} (h1 : d.ph ≠ .r1) (h2 : d.ph ≠ .r2) : d.readValue false = none := by
  unfold Device.readValue
  split
  · rfl
  · split
    · next h => exact absurd h h1
    · next h => exact absurd h h2
    all_goals rfl

theorem Device.readValue_outOfWindow {d : Device} (hw : d.inWindow = false) : d.readValue false = none := by
  simp [Device.readValue, hw]

theorem Device.readValue_high {d : Device} (hp : d.ph = .r1) (hw : d.inWindow = true) :
    d.readValue false = some (d.highAt d.crow.toNat d.ccol.toNat) := by
  simp [Device.readValue, hp, hw]

theorem Device.readValue_low {d : Device} (hp : d.ph = .r2) (hw : d.inWindow = true) :
    d.readValue false = some (d.lowAt d.crow.toNat d.ccol.toNat) := by
  simp [Device.readValue, hp, hw]

/-- The dummy read (R38a). -/
theorem Device.receive_dummyRead {d : Device} (hp : d.ph = .a4) (v : Byte) :
    d.receive (.read false v) = { d with ph := .r1 } := by
  simp [Device.receive, Device.dataRead, hp]

/-- The read of a word's high byte (R38b). -/
theorem Device.receive_highRead {d : Device} (hp : d.ph = .r1) (v : Byte) :
    d.receive (.read false v) = { d with ph := .r2 } := by
  simp [Device.receive, Device.dataRead, hp]

/-- The read of a word's low byte (R38b). -/
theorem Device.receive_lowRead {d : Device} (hp : d.ph = .r2) (v : Byte) :
    d.receive (.read false v) = { d.advance with ph := .n, access := .unaddressed } := by
  simp [Device.receive, Device.dataRead, hp]

/-- A data read out of discipline (R38c). -/
theorem Device.receive_strayRead {d : Device} (h1 : d.ph ≠ .a4) (h2 : d.ph ≠ .r1) (h3 : d.ph ≠ .r2) (v : Byte) :
    d.receive (.read false v) = { d.loseHalfWord with ph := .u } := by
  show d.dataRead = _
  unfold Device.dataRead
  split
  · next h => exact absurd h h1
  · next h => exact absurd h h2
  · next h => exact absurd h h3
  all_goals rfl

/-- A half-written word in the window is lost (R36, R38c). -/
theorem Device.loseHalfWord_inWindow {d : Device} {h : Byte} (hp : d.ph = .w1 h) (hw : d.inWindow = true) :
    d.loseHalfWord = d.scrambleWord := by
  simp [Device.loseHalfWord, hp, hw]

theorem Device.loseHalfWord_outOfWindow {d : Device} (hw : d.inWindow = false) : d.loseHalfWord = d := by
  unfold Device.loseHalfWord
  split
  · simp [hw]
  all_goals rfl

/-- The word lost holds two free bytes (R36, R38c). -/
theorem Device.loseHalfWord_word {d : Device} {h : Byte} (hp : d.ph = .w1 h) (hw : d.inWindow = true) :
    d.loseHalfWord.word d.crow.toNat d.ccol.toNat = Config.lostByte d.draws ++ Config.lostByte (d.draws + 1) := by
  rw [Device.loseHalfWord_inWindow hp hw]
  exact Device.word_of_store rfl

/-- Settles O40: an equation per phase for the byte fixed and for the device after it. -/
theorem dataReadsFollowThePhase : Obligations.DataReadsFollowThePhase := by
  intro d v
  refine ⟨fun hp => ?_, fun hp => ?_, fun hp => ?_, fun hp => ?_, ?_, rfl, rfl⟩
  · exact ⟨Device.readValue_none (by simp [hp]) (by simp [hp]), Device.receive_dummyRead hp v⟩
  · refine ⟨fun hw => ?_, Device.readValue_outOfWindow, Device.receive_highRead hp v⟩
    rw [Device.readValue_high hp hw, Device.word, highByte_joinWord]
  · refine ⟨fun hw => ?_, Device.readValue_outOfWindow, ?_⟩
    · rw [Device.readValue_low hp hw, Device.word, lowByte_joinWord]
    · rw [Device.receive_lowRead hp]
      exact ⟨rfl, rfl, d.advance_ccol, rfl, Device.sameRam_of_eq rfl rfl⟩
  · have hout : d.ph ≠ .a4 ∧ d.ph ≠ .r1 ∧ d.ph ≠ .r2 ∧ d.ph.whole := by
      cases h : d.ph <;> simp [h, Phase.whole] at hp ⊢
    obtain ⟨h4, h1, h2, hwhole⟩ := hout
    rw [Device.receive_strayRead h4 h1 h2, Device.loseHalfWord_of_whole hwhole]
    exact ⟨Device.readValue_none h1 h2, rfl⟩
  · rintro h e hp rfl
    rw [Device.receive_strayRead (by simp [hp]) (by simp [hp]) (by simp [hp])]
    obtain ⟨hram, hrow, hcol, hvb, -, -⟩ := d.loseHalfWord_frame
    refine ⟨Device.readValue_none (by simp [hp]) (by simp [hp]), rfl, hrow, hcol, hvb,
      fun hw => ⟨Device.loseHalfWord_word hp hw, hram⟩, fun hw => ?_⟩
    rw [Device.loseHalfWord_outOfWindow hw]
    exact Device.sameRam_of_eq rfl rfl

/-! ### Command writes -/

/- The address rows of R46 as the ranges of R36. -/

theorem decodeCommand_colLow : ∀ b : Byte, b.toNat ≤ 0x0F → decodeCommand b = .ok (.colLow (b.extractLsb' 0 4)) := by
  decide

theorem decodeCommand_colHigh :
    ∀ b : Byte, 0x10 ≤ b.toNat → b.toNat ≤ 0x17 → decodeCommand b = .ok (.colHigh (b.extractLsb' 0 3)) := by
  decide

theorem decodeCommand_rowLow :
    ∀ b : Byte, 0x60 ≤ b.toNat → b.toNat ≤ 0x6F → decodeCommand b = .ok (.rowLow (b.extractLsb' 0 4)) := by
  decide

theorem decodeCommand_rowHigh :
    ∀ b : Byte, 0x70 ≤ b.toNat → b.toNat ≤ 0x7F → decodeCommand b = .ok (.rowHigh (b.extractLsb' 0 4)) := by
  decide

/-- The commands that set nothing but one of the device's settings (R36, R80 to R84). -/
def Command.setsOnly (c : Command) : Bool :=
  match c with
  | .inverse _ | .dispen _ | .mapping _ _ | .colorPat | .colorMode => true
  | .colLow _ | .colHigh _ | .rowLow _ | .rowHigh _ | .vbias | .sysReset => false

/-- The bytes R36 lists as changing neither RAM nor cursor. -/
theorem decodeCommand_setting {b : Byte}
    (h : b ∈ [0xA6#8, 0xA7#8, 0xAC#8, 0xAD#8, 0xC0#8, 0xC2#8, 0xC4#8, 0xC6#8, 0xD1#8, 0xD4#8]) :
    ∃ c, decodeCommand b = .ok c ∧ Command.setsOnly c = true := by
  fin_cases h <;> exact ⟨_, rfl, rfl⟩

/-- A setting's command changes the settings and begins no address (R36). -/
theorem Device.command_setting {c : Command} (h : Command.setsOnly c = true) (d : Device) :
    d.command c = { d with settings := (d.command c).settings, ph := .a0 } := by
  cases c with
  | inverse _ | dispen _ | mapping _ _ | colorPat | colorMode => rfl
  | colLow _ | colHigh _ | rowLow _ | rowHigh _ | vbias | sysReset => cases h

/-- A byte of no row of R46 is refused. -/
theorem decodeCommand_unlisted {b : Byte} (h : WellFormed.listedCommand b = false) :
    decodeCommand b = .error (.unlistedCommand b) := by
  simp only [WellFormed.listedCommand, commandRows, List.any_cons, matchesRow, byte_and_ones, List.any_nil,
    Bool.or_false, Bool.or_eq_false_iff, beq_eq_false_iff_ne, ne_eq] at h
  simp [decodeCommand, h]

/-- A listed byte that is no VBias value acts as its command on what the lost half word left (R36). -/
theorem Device.receive_command {d : Device} {b : Byte} {c : Command} (hv : d.vb = false)
    (hc : decodeCommand b = .ok c) : d.receive (.write true b) = d.loseHalfWord.command c := by
  obtain ⟨-, -, -, hvb, -, -⟩ := d.loseHalfWord_frame
  simp [Device.receive, Device.commandWrite, hvb, hv, hc]

/-- An unlisted byte that is no VBias value (R36). -/
theorem Device.receive_unlisted {d : Device} {b : Byte} (hv : d.vb = false)
    (hb : WellFormed.listedCommand b = false) : d.receive (.write true b) = d.loseHalfWord.commandUnlisted := by
  obtain ⟨-, -, -, hvb, -, -⟩ := d.loseHalfWord_frame
  simp [Device.receive, Device.commandWrite, hvb, hv, decodeCommand_unlisted hb]

/-- The byte after `0x81` (R36, R51). -/
theorem Device.receive_vbiasValue {d : Device} (hv : d.vb = true) (b : Byte) :
    d.receive (.write true b) = d.loseHalfWord.takeVbias b := by
  obtain ⟨-, -, -, hvb, -, -⟩ := d.loseHalfWord_frame
  simp [Device.receive, Device.commandWrite, hvb, hv]

@[simp] theorem Device.havocCursor_crow (d : Device) : d.havocCursor.crow = Config.freeRow d.draws :=
  d.setRow_crow (Config.freeRow d.draws)

@[simp] theorem Device.havocCursor_ccol (d : Device) : d.havocCursor.ccol = Config.freeColumn d.draws :=
  (d.setRow (Config.freeRow d.draws)).setCol_ccol (Config.freeColumn d.draws)

/-- RAM and cursor are forgotten by `0xE2` and by an unlisted byte alike (R36). -/
theorem Device.receive_forgetting {d : Device} {b : Byte} (hv : d.vb = false)
    (hb : b = 0xE2#8 ∨ WellFormed.listedCommand b = false) : ∃ st,
    d.receive (.write true b) = { d.loseHalfWord.havocRam.havocCursor with settings := st, ph := .a0 } := by
  rcases hb with rfl | hb
  · exact ⟨_, Device.receive_command hv (c := .sysReset) rfl⟩
  · exact ⟨_, Device.receive_unlisted hv hb⟩

/-- Settles O41: the device after the half word is lost is `Device.loseHalfWord`; then one equation per class of byte. -/
theorem commandWritesFollowTheTable : Obligations.CommandWritesFollowTheTable := by
  intro d b
  obtain ⟨hram, hrow, hcol, hvb, hph, -⟩ := d.loseHalfWord_frame
  refine ⟨d.loseHalfWord, _, rfl, hrow, hcol, hvb, hph, Device.loseHalfWord_of_whole,
    fun _ _ hw => Device.loseHalfWord_outOfWindow hw, fun h hp hw => ⟨Device.loseHalfWord_word hp hw, hram⟩,
    fun hv => ?_, fun hv => ?_⟩
  · rw [Device.receive_vbiasValue hv]; rfl
  · rw [← hph]
    refine ⟨fun h => ?_, fun h h' => ?_, fun h h' => ?_, fun h h' => ?_, ?_, fun h => ?_, fun h => ?_⟩
    · exact Device.receive_command hv (decodeCommand_colLow b h)
    · exact Device.receive_command hv (decodeCommand_colHigh b h h')
    · exact Device.receive_command hv (decodeCommand_rowLow b h h')
    · exact Device.receive_command hv (decodeCommand_rowHigh b h h')
    · rintro rfl
      exact Device.receive_command hv (c := .vbias) rfl
    · obtain ⟨c, hc, hset⟩ := decodeCommand_setting h
      rw [Device.receive_command hv hc]
      exact Device.command_setting hset _
    · obtain ⟨st, he⟩ := Device.receive_forgetting hv h
      rw [he]
      exact ⟨rfl, rfl, d.loseHalfWord.havocRam.havocCursor_crow, d.loseHalfWord.havocRam.havocCursor_ccol,
        hvb.trans hv, rfl⟩

end Sys2Proof.Machine
end

section
/-! PROOFS. Addressed accesses of the device, transfer by transfer (20_memory.md R40). -/

namespace Sys2Proof.Machine

/-! ### One word -/

/-- The cursor after one word, in the window (R37, R38). -/
theorem Device.cursorAt_next {d e : Device} {r c : Nat} (h : d.cursorAt r c) (hc : c ≤ 90) (hrow : e.crow = d.crow)
    (hcol : e.ccol = d.ccol + 1) : e.cursorAt r (c + 1) := by
  obtain ⟨h1, h2⟩ := h
  refine ⟨hrow ▸ h1, ?_⟩
  rw [hcol, BitVec.toNat_add, h2]
  exact Nat.mod_eq_of_lt (show c + 1 < 2 ^ 7 by omega)

theorem Device.inWindow_of_cursorAt {d : Device} {r c : Nat} (h : d.cursorAt r c) (hw : Memory.inWindow r c = true) :
    d.inWindow = true := by
  obtain ⟨h1, h2⟩ := h
  rw [Device.inWindow, h1, h2, hw]

theorem Device.AddressedFrom.cursorAt {d e : Device} {r c : Nat} (h : d.AddressedFrom e r c) : e.cursorAt r c :=
  ⟨h.row, h.col⟩

/-- The four address transfers for a row and a column given as numbers (R36, R40). -/
theorem Device.addressedAt {d : Device} {r c : Nat} (hv : d.vb = false) (hp : d.ph.whole) (hr : r ≤ 159) (hc : c < 128) :
    d.AddressedFrom (d.run (commandTransfers (addressBytes (BitVec.ofNat 7 c) (BitVec.ofNat 8 r)))) r c := by
  have hr' : (BitVec.ofNat 8 r).toNat = r := Nat.mod_eq_of_lt (by omega)
  have hc' : (BitVec.ofNat 7 c).toNat = c := Nat.mod_eq_of_lt hc
  have h := d.addressed (BitVec.ofNat 7 c) (BitVec.ofNat 8 r) hv hp
  rwa [hr', hc', ← Device.run_commands] at h

/-- A device that has stored the word `h:l` at (r, c) of the window, into the RAM of `d`, and moved its cursor on (R37b). -/
structure Device.StoredFrom (d e : Device) (r c : Nat) (h l : Byte) : Prop where
  mem : e.mem = d.mem.writeWord r c h l
  epoch : e.epoch = d.epoch
  cursor : e.cursorAt r (c + 1)
  ph : e.ph = .n
  vb : e.vb = d.vb

/-- Two data writes at (r, c), right after an address or a completed word (R37). -/
theorem Device.storedAt {d : Device} {r c : Nat} (hp : d.ph = .a4 ∨ d.ph = .n) (hcur : d.cursorAt r c)
    (hw : Memory.inWindow r c = true) (h l : Byte) :
    d.StoredFrom (d.run [.write false h, .write false l]) r c h l := by
  obtain ⟨e, he, hmem, hep, hrow, hcol, hph, hvb, -⟩ := d.writeTwo h l hp (Device.inWindow_of_cursorAt hcur hw)
  obtain ⟨-, -, hc⟩ := (Memory.inWindow_iff r c).mp hw
  have hcur' := Device.cursorAt_next hcur hc hrow hcol
  obtain ⟨h1, h2⟩ := hcur
  rw [h1, h2] at hmem
  show d.StoredFrom ((d.receive (.write false h)).receive (.write false l)) r c h l
  exact he ▸ ⟨hmem, hep, hcur', hph, hvb⟩

theorem Device.StoredFrom.word {d e : Device} {r c : Nat} {h l : Byte} (hs : d.StoredFrom e r c h l) :
    e.word r c = joinWord h l :=
  Device.word_of_store hs.mem

theorem Device.StoredFrom.sameRamBut {d e : Device} {r c : Nat} {h l : Byte} (hs : d.StoredFrom e r c h l) :
    d.sameRamBut e r c :=
  Device.sameRamBut_of_store hs.mem hs.epoch

/-- Three data reads at (r, c), right after an address: any byte, then the word's two bytes; RAM is kept (R38). -/
theorem Device.readAt {d : Device} {r c : Nat} (hp : d.ph = .a4) (hcur : d.cursorAt r c)
    (hw : Memory.inWindow r c = true) (x y z : Byte) :
    d.readValue false = none ∧ (d.run [.read false x]).readValue false = some (d.highAt r c) ∧
    (d.run [.read false x, .read false y]).readValue false = some (d.lowAt r c) ∧
    d.sameRam (d.run [.read false x, .read false y, .read false z]) ∧
    (d.run [.read false x, .read false y, .read false z]).cursorAt r (c + 1) := by
  have hin : d.inWindow = true := Device.inWindow_of_cursorAt hcur hw
  have h1 : d.run [.read false x] = { d with ph := .r1 } := Device.receive_dummyRead hp x
  have h2 : d.run [.read false x, .read false y] = { d with ph := .r2 } := by
    show (d.run [.read false x]).receive (.read false y) = _
    rw [h1, Device.receive_highRead rfl]
  have h3 : d.run [.read false x, .read false y, .read false z] =
      { d.advance with ph := .n, access := .unaddressed } := by
    show (d.run [.read false x, .read false y]).receive (.read false z) = _
    rw [h2, Device.receive_lowRead rfl]
    rfl
  obtain ⟨-, -, hc⟩ := (Memory.inWindow_iff r c).mp hw
  obtain ⟨hrow, hcol⟩ := hcur
  rw [h1, h2, h3, ← hrow, ← hcol]
  exact ⟨Device.readValue_none (by simp [hp]) (by simp [hp]), Device.readValue_high rfl hin, Device.readValue_low rfl hin,
    Device.sameRam_of_eq rfl rfl, Device.cursorAt_next ⟨rfl, rfl⟩ (hcol ▸ hc) rfl d.advance_ccol⟩

/-- Settles O42: the write is an address and a word stored; the read is the same address and three reads of the RAM it left. -/
theorem addressedAccessRoundTrip : Obligations.AddressedAccessRoundTrip := by
  intro d r c h l hv hp hw addr e
  obtain ⟨hr, -, hc⟩ := (Memory.inWindow_iff r c).mp hw
  have haddr : d.AddressedFrom (d.run addr) r c := Device.addressedAt hv hp hr (by omega)
  have hst : (d.run addr).StoredFrom e r c h l := by
    have := Device.storedAt (.inl haddr.ph) haddr.cursorAt hw h l
    rwa [← Device.run_append] at this
  have hve : e.vb = false := hst.vb.trans haddr.vb
  have hagain : e.AddressedFrom (e.run addr) r c :=
    Device.addressedAt hve (by rw [hst.ph]; exact nofun) hr (by omega)
  have hmem : (e.run addr).mem = (d.run addr).mem.writeWord r c h l := hagain.mem.trans hst.mem
  have hhigh : (e.run addr).highAt r c = h := by simp [Device.highAt, Device.byteAt, hmem]
  have hlow : (e.run addr).lowAt r c = l := by simp [Device.lowAt, Device.byteAt, hmem]
  refine ⟨hst.word, fun a h1 h2 => ?_, hst.cursor, hst.ph, hve, fun x y z => ?_⟩
  · exact (hst.sameRamBut a h1 h2).trans (Device.sameRam_of_eq haddr.mem haddr.epoch a)
  · obtain ⟨h0, h1, h2, hram, hcur⟩ := Device.readAt hagain.ph hagain.cursorAt hw x y z
    simp only [Device.run_append]
    exact ⟨h0, hhigh ▸ h1, hlow ▸ h2, fun a => (hram a).trans (Device.sameRam_of_eq hagain.mem hagain.epoch a), hcur⟩

/-! ### Words in a row -/

/-- The words `ws` stand in the columns from (r, c), every other byte of RAM reads as in `d`, and the cursor stands after the last
(R40d). -/
def Device.LaidFrom (d e : Device) (r c : Nat) (ws : List Word) : Prop :=
  (∀ k (hk : k < ws.length), e.word r (c + k) = ws[k]) ∧
  (∀ a, (∀ k, k < ws.length → a ≠ Memory.wordAddr r (c + k) ∧ a ≠ Memory.wordAddr r (c + k) + 1) →
    e.byteAt a = d.byteAt a) ∧
  e.cursorAt r (c + ws.length)

/-- A word's two bytes lie beside those of the words after it in the row. -/
theorem Memory.wordAddr_apart (r c k : Nat) : Memory.wordAddr r c + 1 < Memory.wordAddr r (c + 1 + k) := by
  unfold Memory.wordAddr; omega

/-- A word stored, then the words after it (R40d). -/
theorem Device.StoredFrom.laid {d e f : Device} {r c : Nat} {v : Word} {ws : List Word}
    (hs : d.StoredFrom e r c (highByte v) (lowByte v)) (hl : e.LaidFrom f r (c + 1) ws) : d.LaidFrom f r c (v :: ws) := by
  obtain ⟨hwords, hframe, hcur⟩ := hl
  refine ⟨fun k hk => ?_, fun a ha => ?_, ?_⟩
  · cases k with
    | zero =>
      have hhi : f.highAt r c = e.highAt r c :=
        hframe _ fun k _ => by have := Memory.wordAddr_apart r c k; omega
      have hlo : f.lowAt r c = e.lowAt r c :=
        hframe _ fun k _ => by have := Memory.wordAddr_apart r c k; omega
      calc f.word r c = e.word r c := by rw [Device.word, Device.word, hhi, hlo]
        _ = v := hs.word.trans (joinWord_bytes v)
    | succ k =>
      have := hwords k (Nat.lt_of_succ_lt_succ hk)
      rwa [Nat.add_assoc, Nat.add_comm 1] at this
  · have hrest : f.byteAt a = e.byteAt a := hframe a fun k hk => by
      have := ha (k + 1) (Nat.succ_lt_succ hk)
      rwa [← Nat.add_assoc, Nat.add_right_comm] at this
    obtain ⟨h1, h2⟩ := ha 0 (Nat.succ_pos _)
    exact hrest.trans (hs.sameRamBut a h1 h2)
  · rwa [Nat.add_assoc, Nat.add_comm 1] at hcur

/-- Words written from (r, c), right after an address or a completed word, as long as the row's window goes (R40d). -/
theorem Device.laidAt {d : Device} {r c : Nat} {ws : List Word} (hp : d.ph = .a4 ∨ d.ph = .n) (hcur : d.cursorAt r c)
    (hr : r ≤ 159) (hc : 37 ≤ c) (hlen : c + ws.length ≤ 91) : d.LaidFrom (d.run (ws.flatMap wordTransfers)) r c ws := by
  induction ws generalizing d c with
  | nil => exact ⟨nofun, fun _ _ => rfl, hcur⟩
  | cons v ws ih =>
    rw [List.length_cons] at hlen
    have hw : Memory.inWindow r c = true := (Memory.inWindow_iff r c).mpr ⟨hr, hc, by omega⟩
    have hst := Device.storedAt hp hcur hw (highByte v) (lowByte v)
    rw [List.flatMap_cons, Device.run_append]
    exact hst.laid (ih (.inr hst.ph) hst.cursor (by omega) (by omega))

/-- Settles O43: an address, then the words by induction; the address changes no byte of RAM. -/
theorem wordsAfterOneAddressAdvance : Obligations.WordsAfterOneAddressAdvance := by
  intro d r c ws hv hp hr hc hlen
  have haddr := Device.addressedAt hv hp hr (c := c) (by omega)
  obtain ⟨hwords, hframe, hcur⟩ := Device.laidAt (.inl haddr.ph) haddr.cursorAt hr hc hlen
  rw [Device.run_append]
  exact ⟨hwords, fun a ha => (hframe a ha).trans (Device.sameRam_of_eq haddr.mem haddr.epoch a), hcur⟩

/-! ### The block's word operations at the cursor -/

/-- `WRWORD`'s actions out of reset, with the device in the window right after an address or a completed word (R37, R63). -/
theorem State.writeWord_stores {s : State} (hr : s.bus.rst = false) (hp : s.dev.ph = .a4 ∨ s.dev.ph = .n)
    (hw : s.dev.inWindow = true) (v : Word) :
    (s.writeWord v).dev.word s.dev.crow.toNat s.dev.ccol.toNat = v ∧
    (s.dev.ph = .a4 → (s.writeWord v).ramKnown s.dev.crow.toNat s.dev.ccol.toNat) ∧
    s.dev.sameRamBut (s.writeWord v).dev s.dev.crow.toNat s.dev.ccol.toNat ∧
    (s.writeWord v).dev.crow = s.dev.crow ∧ (s.writeWord v).dev.ccol = s.dev.ccol + 1 ∧
    (s.writeWord v).dev.ph = .n := by
  have hdev : (s.writeWord v).dev =
      (s.dev.receive (.write false (highByte v))).receive (.write false (lowByte v)) := by
    rw [State.writeWord, State.sendWord_eq]
    exact if_neg (by simp [hr])
  obtain ⟨e, he, hmem, hep, hrow, hcol, hph, -, hknown⟩ := s.dev.writeTwo (highByte v) (lowByte v) hp hw
  unfold State.ramKnown
  rw [hdev, he]
  exact ⟨(Device.word_of_store hmem).trans (joinWord_bytes v), hknown, Device.sameRamBut_of_store hmem hep, hrow, hcol,
    hph⟩

/-- Settles O44: both operations are the actions of `WRWORD`, with the operand or the packed word. -/
theorem wordsAreStoredAtTheCursor : Obligations.WordsAreStoredAtTheCursor :=
  fun _ hr hp hw => ⟨fun v => ⟨_, rfl, State.writeWord_stores hr hp hw v⟩,
    fun p1 p2 p3 => ⟨_, rfl, State.writeWord_stores hr hp hw (packWord p1 p2 p3)⟩⟩

/-- Settles O45: `W` is joined from the two bytes the addressed device answers, and `RDATA` takes it. -/
theorem readWordReadsAtTheCursor : Obligations.ReadWordReadsAtTheCursor := by
  intro s hr hp hw ho
  obtain ⟨hhigh, hlow, hmem, hep, hrow, hcol, hph, -⟩ := s.readWord_addressed hr hp hw ho
  have hdev : (s.readWord.rdataFromW.finish statusOk).dev = s.readWord.dev := by
    rw [State.finish_dev, State.rdataFromW, State.setRdata_dev]
  refine ⟨s.readWord.rdataFromW.finish statusOk, rfl, ?_, rfl, ?_⟩
  · show s.readWord.w = _
    rw [State.readWord_eq, hhigh, hlow, Device.word]
  · rw [hdev]
    exact ⟨Device.sameRam_of_eq hmem hep, hrow, hcol, hph⟩

end Sys2Proof.Machine
end

section
/-! PROOFS. What passes between block and device (20_memory.md R22, R30, R33, R34): the device meets the operation's events and
nothing else, and the block takes from it the bytes it samples and nothing else. -/

namespace Sys2Proof.Machine

/-! ### The device sees the events -/

/-- Settles O55: a reject has no events, and the actions of an accepted instruction are the events they run. -/
theorem deviceSeesOnlyTheEvents : Obligations.DeviceSeesOnlyTheEvents := by
  intro i s t h
  rw [exec_eq_outcome] at h
  cases h
  cases hc : s.rejectCause i with
  | some c =>
    rw [State.outcome_of_rejected hc]
    exact ⟨[], (List.append_nil _).symm, rfl, rfl⟩
  | none =>
    rw [State.outcome_of_accepted hc]
    obtain ⟨es, ⟨hlog, hbus, hdev⟩, -⟩ := s.perform_ran i
    exact ⟨es, State.trace_of_log hlog, hbus, hdev⟩

/-! ### The block sees the bytes -/

/-- The state with another device. -/
def State.withDevice (s : State) (d : Device) : State := { s with dev := d }

/-- The two states differ in the device at most. -/
def State.Alike (s t : State) : Prop := ∃ d, t = s.withDevice d

section
variable {s t : State}

theorem State.Alike.mirror_eq (h : s.Alike t) : t.mirror = s.mirror := by
  obtain ⟨d, rfl⟩ := h; rfl

theorem State.Alike.setW (h : s.Alike t) (v : Word) : (s.setW v).Alike (t.setW v) := by
  obtain ⟨d, rfl⟩ := h; exact ⟨d, rfl⟩

theorem State.Alike.setCol (h : s.Alike t) (c : BitVec 7) : (s.setCol c).Alike (t.setCol c) := by
  obtain ⟨d, rfl⟩ := h; exact ⟨d, rfl⟩

theorem State.Alike.setRow (h : s.Alike t) (r : BitVec 8) : (s.setRow r).Alike (t.setRow r) := by
  obtain ⟨d, rfl⟩ := h; exact ⟨d, rfl⟩

theorem State.Alike.setMirror (h : s.Alike t) (mx my : Bool) : (s.setMirror mx my).Alike (t.setMirror mx my) := by
  obtain ⟨d, rfl⟩ := h; exact ⟨d, rfl⟩

theorem State.Alike.setTarget (h : s.Alike t) (x y : Byte) : (s.setTarget x y).Alike (t.setTarget x y) := by
  obtain ⟨d, rfl⟩ := h; exact ⟨d, rfl⟩

theorem State.Alike.rdataFromDin (h : s.Alike t) : s.rdataFromDin.Alike t.rdataFromDin := by
  obtain ⟨d, rfl⟩ := h; exact ⟨d, rfl⟩

theorem State.Alike.rdataFromW (h : s.Alike t) : s.rdataFromW.Alike t.rdataFromW := by
  obtain ⟨d, rfl⟩ := h; exact ⟨d, rfl⟩

theorem State.Alike.finish (h : s.Alike t) (status : BitVec 3) : (s.finish status).Alike (t.finish status) := by
  obtain ⟨d, rfl⟩ := h; exact ⟨d, rfl⟩

theorem State.Alike.act (h : s.Alike t) (e : Event) : (s.act e).Alike (t.act e) := by
  obtain ⟨d, rfl⟩ := h; exact ⟨d.observe s.bus e, rfl⟩

theorem State.Alike.hold (h : s.Alike t) (n : Nat) : (s.hold n).Alike (t.hold n) := by
  obtain ⟨d, rfl⟩ := h; exact ⟨d.observe s.bus (.hold n), rfl⟩

theorem State.Alike.writePulse (h : s.Alike t) (v : Byte) : (s.writePulse v).Alike (t.writePulse v) := by
  obtain ⟨d, rfl⟩ := h
  simp only [State.writePulse_eq]
  exact ⟨_, rfl⟩

theorem State.Alike.sendCommands (h : s.Alike t) (bs : List Byte) : (s.sendCommands bs).Alike (t.sendCommands bs) := by
  induction bs generalizing s t with
  | nil => exact h
  | cons b bs ih =>
    refine ih (s := s.sendCommand b) (t := t.sendCommand b) ?_
    obtain ⟨d, rfl⟩ := h
    simp only [State.sendCommand_eq]
    exact ⟨_, rfl⟩

theorem State.Alike.sendWord (h : s.Alike t) : s.sendWord.Alike t.sendWord := by
  obtain ⟨d, rfl⟩ := h
  simp only [State.sendWord_eq]
  exact ⟨_, rfl⟩

theorem State.Alike.fillWindow (h : s.Alike t) : s.fillWindow.Alike t.fillWindow := by
  obtain ⟨d, rfl⟩ := h
  simp only [State.fillWindow_eq]
  exact ⟨_, rfl⟩

/-- The next bytes of an unconstrained environment (R34). -/
def State.Supplies (s : State) (a b c : Byte) : Prop := ∃ bs, s.oracle = .script (a :: b :: c :: bs)

variable {a b c : Byte}

theorem State.Supplies.of_alike (h : s.Supplies a b c) (hst : s.Alike t) : t.Supplies a b c := by
  obtain ⟨d, rfl⟩ := hst; exact h

theorem State.Supplies.setTarget (h : s.Supplies a b c) (x y : Byte) : (s.setTarget x y).Supplies a b c := h

theorem State.Supplies.sendAddress (h : s.Supplies a b c) : s.sendAddress.Supplies a b c := by
  rw [State.sendAddress_eq]; exact h

/-- A read pulse samples the environment's next byte, whatever the device (R34, R87). -/
theorem State.pulseByte_script {x : Byte} {xs : List Byte} (h : s.oracle = .script (x :: xs)) : s.pulseByte = x := by
  simp [State.pulseByte, h]

theorem State.readPulse_script {x : Byte} {xs : List Byte} (h : s.oracle = .script (x :: xs)) :
    s.readPulse.oracle = .script xs := by
  rw [State.readPulse_eq]
  simp [h, Oracle.afterSample]

theorem State.Supplies.pulseByte (h : s.Supplies a b c) : s.pulseByte = a := by
  obtain ⟨bs, h⟩ := h
  exact State.pulseByte_script h

/-- The three bytes of `RDWORD` are the environment's (R34, R64). -/
theorem State.Supplies.readBytes (h : s.Supplies a b c) : s.dummyByte = a ∧ s.highRead = b ∧ s.lowRead = c := by
  obtain ⟨bs, h⟩ := h
  have h1 : s.selected.oracle = .script (a :: b :: c :: bs) := h
  have h2 := State.readPulse_script h1
  exact ⟨State.pulseByte_script h1, State.pulseByte_script h2, State.pulseByte_script (State.readPulse_script h2)⟩

theorem State.Alike.readPulse (h : s.Alike t) (hs : s.Supplies a b c) : s.readPulse.Alike t.readPulse := by
  have ht : t.pulseByte = a := (hs.of_alike h).pulseByte
  rw [State.readPulse_eq s, State.readPulse_eq t, hs.pulseByte, ht]
  obtain ⟨d, rfl⟩ := h
  exact ⟨_, rfl⟩

theorem State.Alike.readWord (h : s.Alike t) (hs : s.Supplies a b c) : s.readWord.Alike t.readWord := by
  obtain ⟨hs1, hs2, hs3⟩ := hs.readBytes
  obtain ⟨ht1, ht2, ht3⟩ := (hs.of_alike h).readBytes
  rw [State.readWord_eq s, State.readWord_eq t, hs1, hs2, hs3, ht1, ht2, ht3]
  obtain ⟨d, rfl⟩ := h
  exact ⟨_, rfl⟩

theorem State.Alike.updatePixel (h : s.Alike t) (hs : s.Supplies a b c) (p : Fin 3) (on : Bool) :
    (s.updatePixel p on).Alike (t.updatePixel p on) := by
  obtain ⟨hs1, hs2, hs3⟩ := hs.sendAddress.readBytes
  obtain ⟨ht1, ht2, ht3⟩ := (hs.of_alike h).sendAddress.readBytes
  rw [State.updatePixel_eq s p on hs1 hs2 hs3, State.updatePixel_eq t p on ht1 ht2 ht3]
  obtain ⟨d, rfl⟩ := h
  exact ⟨_, rfl⟩

/-- An instruction serves two devices alike, if the environment gives every byte it samples: three at most (R64, R75). -/
theorem State.Alike.perform (h : s.Alike t) (hs : s.Supplies a b c) (i : Instr) : (s.perform i).Alike (t.perform i) := by
  cases i with
  | setDir o => exact h.act _
  | wrb v => exact h.writePulse v
  | rdb => exact (h.readPulse hs).rdataFromDin
  | selChip x => exact h.act _
  | selCmd k => exact h.act _
  | setRst x => exact h.act _
  | wrWord v => exact (h.setW v).sendWord
  | rdWord => exact (h.readWord hs).rdataFromW
  | setCol x => exact (h.setCol (x.setWidth 7)).sendCommands (columnBytes (x.setWidth 7))
  | setRow r => exact (h.setRow r).sendCommands (rowBytes r)
  | drawPixel x y on =>
    rw [State.perform_drawPixel, State.perform_drawPixel, h.mirror_eq]
    exact (h.setTarget x y).updatePixel (hs.setTarget x y) _ on
  | fillScreen on => exact (h.setW (packWord on on on)).fillWindow
  | drawTriplet p1 p2 p3 => exact (h.setW (packWord p1 p2 p3)).sendWord
  | setMap mx my => exact (h.sendCommands _).setMirror mx my
  | sysReset => exact (h.sendCommands _).hold _
  | _ => exact h.sendCommands _

/-- The range and direction checks read lines and `MIRROR`, not the device (R86). -/
theorem State.Alike.rejectCause_eq (h : s.Alike t) (i : Instr) : t.rejectCause i = s.rejectCause i := by
  obtain ⟨d, rfl⟩ := h
  cases i <;> rfl

theorem State.Alike.outcome (h : s.Alike t) (hs : s.Supplies a b c) (i : Instr) : (s.outcome i).Alike (t.outcome i) := by
  have hr := h.rejectCause_eq i
  cases hc : s.rejectCause i with
  | some k =>
    rw [State.outcome_of_rejected hc, State.outcome_of_rejected (hr.trans hc)]
    exact h.finish _
  | none =>
    rw [State.outcome_of_accepted hc, State.outcome_of_accepted (hr.trans hc)]
    exact (h.perform hs i).finish _

end

/-- Settles O58: each shared sequence takes states that differ in the device to such states, a read because both sample the
environment's byte. -/
theorem blockConsultsOnlySampledBytes : Obligations.BlockConsultsOnlySampledBytes := by
  intro i s d a b c bs ho
  have hs : s.Supplies a b c := ⟨bs, ho⟩
  have h : s.Alike (s.withDevice d) := ⟨d, rfl⟩
  obtain ⟨d', hd'⟩ := h.outcome hs i
  refine ⟨_, _, exec_eq_outcome i s, exec_eq_outcome i (s.withDevice d), ?_⟩
  rw [hd']
  rfl

end Sys2Proof.Machine
end

section
/-! PROOFS. The two decoders and the encoders agree (30_encoding.md R41 to R46, R53): decoding an encoding gives the
instruction, and encoding what a word decodes to gives the word without its unused bits. -/

namespace Sys2Proof

/-! ### Operand bits -/

theorem getLsbD_boolAt : ∀ p : Bool, (boolAt 0 p).getLsbD 0 = p := by decide

theorem getLsbD_boolAt_map : ∀ mx my : Bool, (boolAt 2 mx ||| boolAt 1 my).getLsbD 2 = mx ∧
    (boolAt 2 mx ||| boolAt 1 my).getLsbD 1 = my := by decide

theorem getLsbD_boolAt_triplet : ∀ p1 p2 p3 : Bool, (boolAt 2 p1 ||| boolAt 1 p2 ||| boolAt 0 p3).getLsbD 2 = p1 ∧
    (boolAt 2 p1 ||| boolAt 1 p2 ||| boolAt 0 p3).getLsbD 1 = p2 ∧
    (boolAt 2 p1 ||| boolAt 1 p2 ||| boolAt 0 p3).getLsbD 0 = p3 := by decide

theorem boolAt_getLsbD : ∀ c : Byte, boolAt 0 (c.getLsbD 0) = c &&& 0x01#8 := by decide

theorem boolAt_getLsbD_map : ∀ c : Byte, boolAt 2 (c.getLsbD 2) ||| boolAt 1 (c.getLsbD 1) = c &&& 0x06#8 := by decide

theorem boolAt_getLsbD_triplet : ∀ c : Byte,
    boolAt 2 (c.getLsbD 2) ||| boolAt 1 (c.getLsbD 1) ||| boolAt 0 (c.getLsbD 0) = c &&& 0x07#8 := by decide

/-- A bit of the low byte is the request word's own (R41). -/
theorem getLsbD_cField (w : Request) {i : Nat} (h : i < 8) : (cField w).getLsbD i = w.getLsbD i := by
  simp [cField, h]

/-- `B:C` is `B` above `C` (R43). -/
theorem bcField_eq (w : Request) : bcField w = bField w ++ cField w := by
  unfold bcField bField cField; ext i hi; simp; grind

/-! ### Command bytes -/

/-- A command byte decodes to its row, whose encoding is the byte, or it is refused (R46). -/
theorem decodeCommand_cases : ∀ b : Byte,
    (decodeCommand b).map encodeCommand = .ok b ∧ WellFormed.listedCommand b = true ∨
    decodeCommand b = .error (.unlistedCommand b) ∧ WellFormed.listedCommand b = false := by decide

theorem encodeCommand_of_decodeCommand {b : Byte} {c : Command} (h : decodeCommand b = .ok c) : encodeCommand c = b := by
  rcases decodeCommand_cases b with ⟨he, -⟩ | ⟨he, -⟩
  · rw [h] at he
    exact Except.ok.inj he
  · rw [h] at he
    cases he

/-- A byte decodes exactly when it matches a row (R46). -/
theorem decodeCommand_isOk_iff (b : Byte) : (∃ c, decodeCommand b = .ok c) ↔ WellFormed.listedCommand b = true := by
  rcases decodeCommand_cases b with ⟨he, hl⟩ | ⟨he, hl⟩
  · cases hc : decodeCommand b with
    | ok c => simp [hl]
    | error e => rw [hc] at he; cases he
  · simp [he, hl]

theorem encode_toInstr (c : Command) : encode c.toInstr = .command (encodeCommand c) := by
  cases c <;> rfl

theorem decode_encode_toInstr (c : Command) : decode (encode c.toInstr) = .ok c.toInstr := by
  rw [encode_toInstr]
  simp only [decode, Machine.decodeCommand_encodeCommand]
  rfl

/-! ### Request words -/

theorem decodeRequest_illegal {w : Request} (h : opcField w ∉ operationCodes) :
    decodeRequest w = .error (.illegalOpc (opcField w)) := by
  unfold decodeRequest
  split
  case h_22 => rfl
  all_goals
    next ho => exact absurd (ho ▸ by decide) h

/-- A legal code decodes (R42). -/
theorem decodeRequest_legal {w : Request} (h : opcField w ∈ operationCodes) : ∃ i, decodeRequest w = .ok i := by
  simp only [operationCodes, List.mem_cons, List.not_mem_nil, or_false] at h
  unfold decodeRequest
  split
  case h_22 => simp_all
  all_goals exact ⟨_, rfl⟩

/-- What is left of a request word without its unused bits, byte by byte (R41, R43). -/
theorem and_usedBits {w : Request} {opc a b c : Byte} (ho : opcField w = opc)
    (hm : usedBits opc = requestWord 0xFF#8 a b c) :
    w &&& usedBits (opcField w) = requestWord opc (aField w &&& a) (bField w &&& b) (cField w &&& c) := by
  conv_lhs => rw [ho, hm, ← requestWord_fields w, requestWord_and, ho, byte_and_ones]

theorem word_bytes (b c : Byte) : (b ++ c : Word).extractLsb' 8 8 = b ∧ (b ++ c : Word).extractLsb' 0 8 = c :=
  ⟨Machine.highByte_joinWord b c, Machine.lowByte_joinWord b c⟩

/-- The encoding of what a request word decodes to is the word without its unused bits (R41, R53). -/
theorem encode_of_decodeRequest {w : Request} {i : Instr} (h : decodeRequest w = .ok i) :
    encode i = .request (w &&& usedBits (opcField w)) := by
  unfold decodeRequest at h
  split at h
  case h_22 => cases h
  -- `WRWORD` uses `B` and `C`, `DRAWPIXEL` uses `A`, `B` and one bit, `DRAWTRIPLET` three bits, `SETMAP` two.
  case h_8 ho =>
    cases h
    rw [and_usedBits ho (a := 0#8) (b := 0xFF#8) (c := 0xFF#8) rfl, bcField_eq]
    simp [encode, byte_and_ones, word_bytes]
  case h_12 ho =>
    cases h
    rw [and_usedBits ho (a := 0xFF#8) (b := 0xFF#8) (c := 0x01#8) rfl]
    simp only [encode, byte_and_ones, boolAt_getLsbD]
  case h_14 ho =>
    cases h
    rw [and_usedBits ho (a := 0#8) (b := 0#8) (c := 0x07#8) rfl]
    simp only [encode, BitVec.and_zero, boolAt_getLsbD_triplet]
  case h_18 ho =>
    cases h
    rw [and_usedBits ho (a := 0#8) (b := 0#8) (c := 0x06#8) rfl]
    simp only [encode, BitVec.and_zero, boolAt_getLsbD_map]
  -- The operations with one bit, with the byte `C`, and without an operand.
  case h_1 ho | h_4 ho | h_5 ho | h_6 ho | h_13 ho | h_16 ho | h_17 ho =>
    cases h
    rw [and_usedBits ho (a := 0#8) (b := 0#8) (c := 0x01#8) rfl]
    simp only [encode, BitVec.and_zero, boolAt_getLsbD]
  case h_2 ho | h_7 ho | h_10 ho | h_11 ho | h_15 ho =>
    cases h
    rw [and_usedBits ho (a := 0#8) (b := 0#8) (c := 0xFF#8) rfl]
    simp [encode, byte_and_ones]
  case h_3 ho | h_9 ho | h_19 ho | h_20 ho | h_21 ho =>
    cases h
    rw [and_usedBits ho (a := 0#8) (b := 0#8) (c := 0#8) rfl]
    simp [encode]

/-- The decoder gives back every instruction (R41 to R46, R53). -/
theorem decode_encode (i : Instr) : decode (encode i) = .ok i := by
  cases i with
  | setDir _ | selChip _ | selCmd _ | setRst _ | fillScreen _ | setInv _ | setDispEn _ | drawPixel _ _ _ =>
    simp only [encode, decode, decodeRequest, opcField_requestWord, aField_requestWord, bField_requestWord,
      cField_requestWord, getLsbD_boolAt]
  | drawTriplet p1 p2 p3 => 
    simp only [encode, decode, decodeRequest, opcField_requestWord, cField_requestWord, getLsbD_boolAt_triplet]
  | setMap mx my => 
    simp only [encode, decode, decodeRequest, opcField_requestWord, cField_requestWord, getLsbD_boolAt_map]
  | wrWord v => simp [encode, decode, decodeRequest, word_of_bytes]
  | wrb _ | rdb | sendCmd _ | rdWord | setCol _ | setRow _ | setVbias _ | setColorPat | setColorMode | sysReset =>
    simp [encode, decode, decodeRequest]
  | cmdColLow n => exact decode_encode_toInstr (.colLow n)
  | cmdColHigh n => exact decode_encode_toInstr (.colHigh n)
  | cmdRowLow n => exact decode_encode_toInstr (.rowLow n)
  | cmdRowHigh n => exact decode_encode_toInstr (.rowHigh n)
  | cmdVbias => exact decode_encode_toInstr .vbias
  | cmdInverse e => exact decode_encode_toInstr (.inverse e)
  | cmdDispen p => exact decode_encode_toInstr (.dispen p)
  | cmdMapping mx my => exact decode_encode_toInstr (.mapping mx my)
  | cmdColorPat => exact decode_encode_toInstr .colorPat
  | cmdColorMode => exact decode_encode_toInstr .colorMode
  | cmdSysReset => exact decode_encode_toInstr .sysReset

theorem encode_injective : Function.Injective encode := by
  intro i j h
  have he := decode_encode i
  rw [h, decode_encode j] at he
  exact (Except.ok.inj he).symm

/-- Every code's used bits include the code itself (R41). -/
theorem opcField_and_usedBits (w : Request) (opc : Byte) : opcField (w &&& usedBits opc) = opcField w := by
  obtain ⟨a, b, c, hm⟩ : ∃ a b c, usedBits opc = requestWord 0xFF#8 a b c := by
    unfold usedBits
    split_ifs
    · exact ⟨0#8, 0#8, 0x01#8, rfl⟩
    · exact ⟨0#8, 0#8, 0xFF#8, rfl⟩
    · exact ⟨0#8, 0xFF#8, 0xFF#8, rfl⟩
    · exact ⟨0xFF#8, 0xFF#8, 0x01#8, rfl⟩
    · exact ⟨0#8, 0#8, 0x07#8, rfl⟩
    · exact ⟨0#8, 0#8, 0x06#8, rfl⟩
    · exact ⟨0#8, 0#8, 0#8, rfl⟩
  rw [hm]
  conv_lhs => rw [← requestWord_fields w, requestWord_and, opcField_requestWord, byte_and_ones]

/-! ### The statements -/

/-- Settles O1: the fields of the word the encoder writes are the operands, and a command byte decodes to its row. -/
theorem decodeOfEncodeIsTheInstruction : Obligations.DecodeOfEncodeIsTheInstruction := decode_encode

/-- Settles O2: a canonical word has no unused bits to lose, and a listed byte decodes to the row that encodes it. -/
theorem encodeOfDecodeIsTheWord : Obligations.EncodeOfDecodeIsTheWord := by
  refine ⟨fun w hw => ?_, fun b hb => ?_⟩
  · obtain ⟨hl, hm⟩ := Bool.and_eq_true_iff.mp hw
    obtain ⟨i, hi⟩ := decodeRequest_legal (List.contains_iff_mem.mp hl)
    exact ⟨i, hi, by rw [encode_of_decodeRequest hi, eq_of_beq hm]⟩
  · obtain ⟨c, hc⟩ := (decodeCommand_isOk_iff b).mpr hb
    exact ⟨c, hc, by rw [encode_toInstr, encodeCommand_of_decodeCommand hc]⟩

/-- Settles O3: the decoder's arm for each code, with the operand bits read from the word itself. -/
theorem requestFieldsDecodeAsTabled : Obligations.RequestFieldsDecodeAsTabled := by
  refine ⟨by decide, rfl, fun w => ?_⟩
  have h0 := getLsbD_cField w (i := 0) (by decide)
  have h1 := getLsbD_cField w (i := 1) (by decide)
  have h2 := getLsbD_cField w (i := 2) (by decide)
  refine ⟨?_, ?_, ?_, ?_, ?_, ?_, ?_, ?_, ?_, ?_, ?_, ?_, ?_, ?_, ?_, ?_, ?_, ?_, ?_, ?_, ?_, decodeRequest_illegal⟩
  all_goals
    intro (h : opcField w = _)
    simp only [decodeRequest, h, h0, h1, h2, bcField_eq] <;> rfl

/-- Settles O4: both words have one encoding, and an encoding is decoded in one way; an illegal code is all a refusal names. -/
theorem unusedOperandBitsAreIgnored : Obligations.UnusedOperandBitsAreIgnored := by
  intro w w' h
  have ho : opcField w' = opcField w := by
    rw [← opcField_and_usedBits w' (opcField w), ← h, opcField_and_usedBits]
  by_cases hl : opcField w ∈ operationCodes
  · obtain ⟨i, hi⟩ := decodeRequest_legal hl
    obtain ⟨j, hj⟩ := decodeRequest_legal (ho ▸ hl)
    have hij : encode i = encode j := by rw [encode_of_decodeRequest hi, encode_of_decodeRequest hj, ho, h]
    rw [hi, hj, encode_injective hij]
  · rw [decodeRequest_illegal hl, decodeRequest_illegal (ho ▸ hl), ho]

/-- Settles O5: each byte tried against the eleven rows. -/
theorem commandPatternsDoNotOverlap : Obligations.CommandPatternsDoNotOverlap :=
  ⟨by decide, by decide, decodeCommand_isOk_iff⟩

/-- Settles O6: the decoders evaluated. -/
theorem sampleWordsDecode : Obligations.SampleWordsDecode := by
  unfold Obligations.SampleWordsDecode
  decide

end Sys2Proof

namespace Sys2Proof.Machine

/-! ### Address bytes -/

theorem toNat_columnLowByte : ∀ c : BitVec 7, (0x00#8 ||| (c.extractLsb' 0 4).setWidth 8).toNat = c.toNat % 16 := by decide

theorem toNat_columnHighByte : ∀ c : BitVec 7, (0x10#8 ||| (c.extractLsb' 4 3).setWidth 8).toNat = 0x10 + c.toNat / 16 := by
  decide

theorem toNat_rowLowByte : ∀ r : BitVec 8, (0x60#8 ||| (r.extractLsb' 0 4).setWidth 8).toNat = 0x60 + r.toNat % 16 := by
  decide

theorem toNat_rowHighByte : ∀ r : BitVec 8, (0x70#8 ||| (r.extractLsb' 4 4).setWidth 8).toNat = 0x70 + r.toNat / 16 := by
  decide

/-- Settles O11: the bytes are the remainder and the quotient by 16 on their bases. -/
theorem addressBytesSplitTheAddress : Obligations.AddressBytesSplitTheAddress := by
  refine ⟨fun c h1 h2 => ⟨_, _, rfl, ?_⟩, fun r h => ⟨_, _, rfl, ?_⟩, by decide⟩
  · rw [toNat_columnLowByte, toNat_columnHighByte]
    omega
  · rw [toNat_rowLowByte, toNat_rowHighByte]
    omega

end Sys2Proof.Machine
end

section
/-! PROOFS. Command bytes as instructions (30_encoding.md R45, R46, R52): each is its byte sent with `SENDCMD`, and the device
takes it as its command (20_memory.md R36). -/

namespace Sys2Proof.Machine

/-- The row's instruction is its byte sent with `SENDCMD` (R46, R52). -/
theorem exec_sendCmd_encode (c : Command) (s : State) : exec (.sendCmd (encodeCommand c)) s = exec c.toInstr s := by
  cases c <;> rfl

/-- Everything one command byte does beside its response. -/
theorem State.sentCommands_sendCommand (s : State) (b : Byte) (status : BitVec 3) :
    s.sentCommands ((s.sendCommand b).finish status) [b] := by
  rw [State.sendCommand_eq]
  exact ⟨State.trace_of_log rfl, rfl, rfl, rfl, rfl⟩

/-- What the row's instruction does to the block, and to a ready device (R46, R36, R52). -/
theorem exec_toInstr (c : Command) (s : State) :
    ∃ t, exec c.toInstr s = .next t ∧ s.endedWith t 0#3 ∧ s.sameRegisters t ∧ s.sentCommands t [encodeCommand c] ∧
      (s.deviceReady → t.dev = s.dev.command c) := by
  refine ⟨_, (exec_sendCmd_encode c s).symm, ⟨rfl, rfl, rfl⟩, ?_, s.sentCommands_sendCommand _ statusOk, ?_⟩
  · rw [State.sendCommand_eq]
    exact ⟨⟨rfl, rfl, rfl, rfl, rfl, rfl, rfl, rfl⟩, rfl, rfl, rfl⟩
  · rintro ⟨hrst, hvb, hph⟩
    have hdev : (s.sendCommand (encodeCommand c)).dev = s.dev.commandWrite (encodeCommand c) := by
      rw [State.sendCommand_eq, hrst]
      rfl
    exact hdev.trans (Device.commandWrite_encode c hvb hph)

/-- The fetched command byte is the request that sends it (notes 15). -/
theorem State.withFetchWord_op (s : State) (b : Byte) : (s.withFetchWord 8 b.toNat).op = commandRequest b := by
  simp [State.withFetchWord]

theorem decodeRequest_commandRequest (b : Byte) : decodeRequest (commandRequest b) = .ok (.sendCmd b) :=
  decode_encode (.sendCmd b)

/-- Settles O13: the fetched request decodes to `SENDCMD` of the byte, and the byte is the encoding of its row. -/
theorem stepRunsTheCommandByte : Obligations.StepRunsTheCommandByte := by
  intro s b c hc
  have hop : decodeRequest (s.withFetchWord 8 b.toNat).op = .ok (.sendCmd b) := by
    rw [State.withFetchWord_op, decodeRequest_commandRequest]
  rw [stepRunsTheDecodedInstruction _ _ rfl hop, ← encodeCommand_of_decodeCommand hc, exec_sendCmd_encode]

/-- Settles O14: the decoder refuses the code, and the step is the reject. -/
theorem illegalRequestIsRejected : Obligations.IllegalRequestIsRejected := by
  intro s hb ho
  simp only [step, hb, if_true, State.runOp, decodeRequest_illegal ho]
  rfl

/-- Settles O35: the four address rows. -/
theorem addressBytesSetTheCursor : Obligations.AddressBytesSetTheCursor := fun s =>
  ⟨fun n => exec_toInstr (.colLow n) s, fun n => exec_toInstr (.colHigh n) s, fun n => exec_toInstr (.rowLow n) s,
    fun n => exec_toInstr (.rowHigh n) s⟩

theorem encodeCommand_inverse : ∀ a, encodeCommand (.inverse a) = if a then 0xA7#8 else 0xA6#8 := by decide

theorem encodeCommand_dispen : ∀ a, encodeCommand (.dispen a) = if a then 0xAD#8 else 0xAC#8 := by decide

theorem encodeCommand_mapping : ∀ a b, encodeCommand (.mapping a b) =
    0xC0#8 ||| (if a then 4#8 else 0#8) ||| (if b then 2#8 else 0#8) := by decide

/-- Settles O36: the other seven rows, their bytes written out. -/
theorem otherCommandBytesReachTheDevice : Obligations.OtherCommandBytesReachTheDevice := by
  intro a b s
  rw [← encodeCommand_inverse, ← encodeCommand_dispen, ← encodeCommand_mapping]
  refine ⟨exec_toInstr .vbias s, exec_toInstr (.inverse a) s, exec_toInstr (.dispen a) s, exec_toInstr (.mapping a b) s,
    exec_toInstr .colorPat s, exec_toInstr .colorMode s, ?_⟩
  obtain ⟨t, hx, hend, hreg, hsent, hdev⟩ := exec_toInstr .sysReset s
  refine ⟨t, hx, hend, hreg, hsent, fun hr => ?_⟩
  rw [hdev hr]
  obtain ⟨-, hvb, -⟩ := hr
  exact ⟨rfl, rfl, rfl, hvb⟩

/-- Settles O37: the row's instruction is `SENDCMD` of its byte, which keeps the block's registers; `SETMAP` is the same
command with `MIRROR` written before the response. -/
theorem sendCommandIsOpaqueToTheBlock : Obligations.SendCommandIsOpaqueToTheBlock := by
  intro c s
  have hx := exec_sendCmd_encode c s
  refine ⟨hx, ?_, fun mx my => ?_⟩
  · obtain ⟨t, ht, -, ⟨⟨hmirror, hrow, hcol, -⟩, -⟩, -⟩ := exec_toInstr c s
    exact ⟨t, hx.trans ht, hmirror, hcol, hrow⟩
  · exact ⟨_, _, rfl, rfl, (State.Kept.sendCommand s (encodeCommand (.mapping mx my))).mirror_eq, rfl⟩

end Sys2Proof.Machine
end

section
/-! PROOFS. The normative expansions (30_encoding.md R54): the responses between the separate requests, and the registers only
the composite writes, change nothing on the wire. -/

namespace Sys2Proof.Machine

/-- Several requests one after another run to the outcome of each in turn (R54). -/
theorem runAll_eq_foldl (is : List Instr) (s : State) : runAll is s = some (is.foldl State.outcome s) := by
  induction is generalizing s with
  | nil => rfl
  | cons i is ih =>
    rw [runAll, exec_eq_outcome]
    exact ih (s.outcome i)

/-- Two states agree on the wire: in `TRACE`, the lines, the device, the last byte sampled and what answers the next sample. -/
structure State.SameWire (s t : State) : Prop where
  log : t.log = s.log
  bus : t.bus = s.bus
  dev : t.dev = s.dev
  din : t.din = s.din
  oracle : t.oracle = s.oracle

section
variable {s t u : State}

theorem State.SameWire.refl (s : State) : s.SameWire s := ⟨rfl, rfl, rfl, rfl, rfl⟩

theorem State.SameWire.trans (h : s.SameWire t) (k : t.SameWire u) : s.SameWire u :=
  ⟨k.log.trans h.log, k.bus.trans h.bus, k.dev.trans h.dev, k.din.trans h.din, k.oracle.trans h.oracle⟩

/- A register written is not seen on the wire, nor is a response. -/

theorem State.SameWire.setRdata (s : State) (v : Word) : (s.setRdata v).SameWire s := ⟨rfl, rfl, rfl, rfl, rfl⟩
theorem State.SameWire.setW (s : State) (v : Word) : (s.setW v).SameWire s := ⟨rfl, rfl, rfl, rfl, rfl⟩
theorem State.SameWire.setCol (s : State) (c : BitVec 7) : (s.setCol c).SameWire s := ⟨rfl, rfl, rfl, rfl, rfl⟩
theorem State.SameWire.setRow (s : State) (r : BitVec 8) : (s.setRow r).SameWire s := ⟨rfl, rfl, rfl, rfl, rfl⟩
theorem State.SameWire.setMirror (s : State) (mx my : Bool) : (s.setMirror mx my).SameWire s := ⟨rfl, rfl, rfl, rfl, rfl⟩

theorem State.SameWire.finish (h : s.SameWire t) (status : BitVec 3) : s.SameWire (t.finish status) :=
  ⟨h.log, h.bus, h.dev, h.din, h.oracle⟩

theorem State.SameWire.setLine (h : s.SameWire t) (l : Line) (a : Bool) : (s.setLine l a).SameWire (t.setLine l a) := by
  constructor <;> simp [h.log, h.bus, h.dev, h.din, h.oracle]

theorem State.SameWire.writePulse (h : s.SameWire t) (v : Byte) : (s.writePulse v).SameWire (t.writePulse v) := by
  rw [State.writePulse_eq, State.writePulse_eq]
  constructor <;> simp [h.log, h.bus, h.dev, h.din, h.oracle]

theorem State.SameWire.pulseByte (h : s.SameWire t) : t.pulseByte = s.pulseByte := by
  simp [State.pulseByte, h.bus, h.dev, h.oracle]

theorem State.SameWire.readPulse (h : s.SameWire t) : s.readPulse.SameWire t.readPulse := by
  rw [State.readPulse_eq, State.readPulse_eq]
  constructor <;> simp [h.log, h.bus, h.dev, h.oracle, h.pulseByte]

/-- A read pulse, and as a request that also writes `RDATA` and responds (R58). -/
theorem State.SameWire.rdb (h : s.SameWire t) : s.readPulse.SameWire (t.outcome .rdb) :=
  h.readPulse.trans ⟨rfl, rfl, rfl, rfl, rfl⟩

theorem State.SameWire.sendCommand (h : s.SameWire t) (b : Byte) : (s.sendCommand b).SameWire (t.sendCommand b) :=
  (((h.setLine .cs true).setLine .cd true).writePulse b).setLine .cs false

/-- Commands sent without a response between them, and as one request each (R54). -/
theorem State.SameWire.sendCommands (h : s.SameWire t) (bs : List Byte) :
    (s.sendCommands bs).SameWire ((bs.map Instr.sendCmd).foldl State.outcome t) := by
  induction bs generalizing s t with
  | nil => exact h
  | cons b bs ih => exact ih ((h.sendCommand b).finish statusOk)

end

/-- `SENDCMD` by primitive operations (R54). -/
theorem State.sameWire_sendCommand (s : State) (b : Byte) :
    (s.sendCommand b).SameWire ([.selChip true, .selCmd true, .wrb b, .selChip false].foldl State.outcome s) :=
  ((((((((State.SameWire.refl s).setLine .cs true).finish statusOk).setLine .cd true).finish statusOk).writePulse
    b).finish statusOk).setLine .cs false).finish statusOk

/-- `WRWORD` by primitive operations (R54). -/
theorem State.sameWire_writeWord (s : State) (v : Word) :
    (s.writeWord v).SameWire
      ([.selChip true, .selCmd false, .wrb (highByte v), .wrb (lowByte v), .selChip false].foldl State.outcome s) :=
  ((((((((((State.SameWire.setW s v).setLine .cs true).finish statusOk).setLine .cd false).finish statusOk).writePulse
    (highByte v)).finish statusOk).writePulse (lowByte v)).finish statusOk).setLine .cs false).finish statusOk

/-- `RDWORD` by primitive operations (R54). -/
theorem State.sameWire_readWord (s : State) :
    s.readWord.SameWire ([.selChip true, .selCmd false, .rdb, .rdb, .rdb, .selChip false].foldl State.outcome s) := by
  have h0 : s.selected.SameWire ([.selChip true, .selCmd false].foldl State.outcome s) :=
    ((((State.SameWire.refl s).setLine .cs true).finish statusOk).setLine .cd false).finish statusOk
  have h3 := h0.rdb.rdb.rdb
  exact (((State.SameWire.setW _ _).trans h3).setLine .cs false).finish statusOk

/-! ### The statement -/

/-- An accepted operation that agrees on the wire with its expansion gives the expansion's trace, lines, device and `DIN`. -/
theorem expands {s : State} {i : Instr} {is : List Instr} (ha : s.rejectCause i = none)
    (h : (s.perform i).SameWire (is.foldl State.outcome s)) :
    ∃ t u, exec i s = .next t ∧ runAll is s = some u ∧ t.trace = u.trace ∧ t.bus = u.bus ∧ t.dev = u.dev ∧
      t.din = u.din := by
  refine ⟨_, _, exec_eq_outcome i s, runAll_eq_foldl is s, ?_⟩
  rw [State.outcome_of_accepted ha]
  exact ⟨congrArg List.reverse h.log.symm, h.bus.symm, h.dev.symm, h.din.symm⟩

/-- An accepted operation whose actions are these commands, but for registers, expands to one `SENDCMD` each. -/
theorem expands_commands {s : State} {i : Instr} (bs : List Byte) (ha : s.rejectCause i = none)
    (h : (s.perform i).SameWire (s.sendCommands bs)) :
    ∃ t u, exec i s = .next t ∧ runAll (bs.map .sendCmd) s = some u ∧ t.trace = u.trace ∧ t.bus = u.bus ∧
      t.dev = u.dev ∧ t.din = u.din :=
  expands ha (h.trans ((State.SameWire.refl s).sendCommands bs))

/-- Settles O38: the words by primitive operations, the others by `SENDCMD`; the composite's own registers and the responses
between the requests are off the wire. -/
theorem expansionsGiveTheSameTrace : Obligations.ExpansionsGiveTheSameTrace := by
  rintro s i is (⟨b, rfl, rfl⟩ | ⟨v, rfl, rfl⟩ | ⟨rfl, rfl⟩ | ⟨c, rfl, hc, rfl⟩ | ⟨r, rfl, hr, rfl⟩ | ⟨p1, p2, p3, rfl, rfl⟩ |
    ⟨v, rfl, rfl⟩ | ⟨e, rfl, rfl⟩ | ⟨e, rfl, rfl⟩ | ⟨mx, my, rfl, rfl⟩ | ⟨rfl, rfl⟩ | ⟨rfl, rfl⟩)
  · exact expands rfl (s.sameWire_sendCommand b)
  · exact expands rfl (s.sameWire_writeWord v)
  · exact expands rfl ((State.SameWire.setRdata s.readWord _).trans s.sameWire_readWord)
  · refine expands_commands (columnBytes (c.setWidth 7)) (if_pos hc) ?_
    exact ((State.SameWire.setCol s (c.setWidth 7)).sendCommand _).sendCommand _
  · refine expands_commands (rowBytes r) (if_pos hr) ?_
    exact ((State.SameWire.setRow s r).sendCommand _).sendCommand _
  · exact expands rfl ((State.SameWire.refl _).finish statusOk)
  · exact expands_commands [0x81#8, v] rfl (State.SameWire.refl _)
  · rw [← encodeCommand_inverse]
    exact expands_commands [_] rfl (State.SameWire.refl _)
  · rw [← encodeCommand_dispen]
    exact expands_commands [_] rfl (State.SameWire.refl _)
  · exact expands_commands [encodeCommand (.mapping mx my)] rfl (State.SameWire.setMirror _ mx my)
  · exact expands_commands [0xD1#8] rfl (State.SameWire.refl _)
  · exact expands_commands [0xD4#8] rfl (State.SameWire.refl _)

end Sys2Proof.Machine
end

section
/-! PROOFS. Bus Transport (40_bus_transport.md R56 to R61): one action and its response, the two byte pulses, and the device at
the reset line (20_memory.md R39). -/

namespace Sys2Proof.Machine

/-! ### One action -/

/-- Everything an operation of one action does, its response included (R8, R17): the event meets the lines and the device. -/
theorem State.finish_act (s : State) (e : Event) :
    s.endedWith ((s.act e).finish statusOk) 0#3 ∧ s.sameRegisters ((s.act e).finish statusOk) ∧
      ((s.act e).finish statusOk).trace = s.trace ++ [e] ∧ ((s.act e).finish statusOk).seq = s.seq + 1 ∧
      ((s.act e).finish statusOk).bus = s.bus.after e ∧ ((s.act e).finish statusOk).oracle = s.oracle ∧
      ((s.act e).finish statusOk).dev = s.dev.observe s.bus e ∧ ((s.act e).finish statusOk).timer = s.timer :=
  ⟨⟨rfl, rfl, rfl⟩, ⟨⟨rfl, rfl, rfl, rfl, rfl, rfl, rfl, rfl⟩, rfl, rfl, rfl⟩, State.trace_of_log rfl, rfl, rfl, rfl, rfl, rfl⟩

/-- The one request of the bus transport that can be refused (R56). -/
theorem State.rejectCause_setDir (s : State) (o : Bool) :
    s.rejectCause (.setDir o) =
      if s.bus.cs = true ∧ s.bus.dir ≠ requestedDir o then some .refusedDir else none := by
  simp [State.rejectCause]

/-- Settles O17: the refusal's condition picks the reject, or the one `Dir` event, which no device sees. -/
theorem setDirSetsOrRefuses : Obligations.SetDirSetsOrRefuses := by
  obtain ⟨-, -, hdec⟩ := requestFieldsDecodeAsTabled
  refine ⟨fun w => ?_, fun o s h => ?_, fun o s hcs hdir => ?_⟩
  · obtain ⟨hsetDir, -⟩ := hdec w
    exact hsetDir
  · have ha : s.rejectCause (.setDir o) = none := (s.rejectCause_setDir o).trans (if_neg h)
    refine ⟨_, exec_eq_outcome _ s, ?_⟩
    rw [State.outcome_of_accepted ha]
    exact s.finish_act (.dir (requestedDir o))
  · have hr : s.rejectCause (.setDir o) = some .refusedDir := (s.rejectCause_setDir o).trans (if_pos ⟨hcs, hdir⟩)
    rw [exec_eq_outcome, State.outcome_of_rejected hr]
    rfl

/-- Settles O20: one `Line` event each; neither line's level is a transfer. -/
theorem selectLinesSetALevel : Obligations.SelectLinesSetALevel := fun a s =>
  ⟨⟨_, exec_eq_outcome (.selChip a) s, s.finish_act (.line .cs a)⟩,
    ⟨_, exec_eq_outcome (.selCmd a) s, s.finish_act (.line .cd a)⟩⟩

/-! ### The reset line -/

/-- The device does not meet the reset line released, nor one asserted already (R39). -/
theorem Device.observe_rst_noRise {b : Bus} {a : Bool} (h : a = false ∨ b.rst = true) (d : Device) :
    d.observe b (.line .rst a) = d := by
  cases a with
  | false => rfl
  | true => exact if_pos (h.resolve_left (by decide))

/-- The rise of the reset line resets the device (R39). -/
theorem Device.observe_rst_rise {b : Bus} (h : b.rst = false) (d : Device) :
    d.observe b (.line .rst true) = d.resetLine :=
  if_neg (by simp [h])

@[simp] theorem Device.resetLine_crow (d : Device) : d.resetLine.crow = Config.freeRow (d.draws + 1) :=
  d.havocRam.havocCursor_crow

@[simp] theorem Device.resetLine_ccol (d : Device) : d.resetLine.ccol = Config.freeColumn (d.draws + 1) :=
  d.havocRam.havocCursor_ccol

/-- Settles O21: the one event, and the device at the line's rise or not. -/
theorem resetLineMakesTheDeviceForget : Obligations.ResetLineMakesTheDeviceForget := by
  intro a s
  obtain ⟨hend, hreg, htrace, hseq, hbus, horacle, hdev, htimer⟩ := s.finish_act (.line .rst a)
  refine ⟨_, exec_eq_outcome (.setRst a) s, hend, hreg, htrace, hseq, hbus, horacle, htimer, fun h => ?_, fun ha hrst => ?_⟩
  · exact hdev.trans (Device.observe_rst_noRise h s.dev)
  · subst ha
    have hforget : (s.outcome (.setRst true)).dev = s.dev.resetLine := hdev.trans (Device.observe_rst_rise hrst s.dev)
    rw [hforget]
    exact ⟨rfl, rfl, rfl, rfl, rfl, s.dev.resetLine_crow, s.dev.resetLine_ccol⟩

/-! ### The byte pulses -/

/-- The device is selected and out of reset, as the model's test and as R33 says it. -/
theorem Bus.selects_iff (b : Bus) : (b.cs && !b.rst) = true ↔ b.cs = true ∧ b.rst = false := by simp

theorem State.outcome_wrb (s : State) (v : Byte) : s.outcome (.wrb v) = (s.writePulse v).finish statusOk :=
  State.outcome_of_accepted rfl

theorem State.outcome_rdb (s : State) : s.outcome .rdb = s.readPulse.rdataFromDin.finish statusOk :=
  State.outcome_of_accepted rfl

/-- Settles O18: the equation of the write pulse, read field by field. -/
theorem writeByteDrivesAndPulses : Obligations.WriteByteDrivesAndPulses := by
  obtain ⟨-, -, hdec⟩ := requestFieldsDecodeAsTabled
  refine ⟨fun w => ?_, fun v s => ⟨_, exec_eq_outcome (.wrb v) s, ?_⟩⟩
  · obtain ⟨-, hwrb, -⟩ := hdec w
    exact hwrb
  · rw [State.outcome_wrb, State.writePulse_eq]
    exact ⟨⟨rfl, rfl, rfl⟩, ⟨⟨rfl, rfl, rfl, rfl, rfl, rfl, rfl, rfl⟩, rfl, rfl, rfl⟩, State.trace_of_log rfl, rfl, rfl, rfl,
      if_congr s.bus.selects_iff rfl rfl⟩

/-- Where the device model fixes the byte of a read pulse, the pulse samples it (R34, R38). -/
theorem State.pulseByte_device {s : State} {b : Byte} (ho : s.oracle = .device) (hcs : s.bus.cs = true)
    (hrst : s.bus.rst = false) (hv : s.dev.readValue s.bus.cd = some b) : s.pulseByte = b := by
  simp [State.pulseByte, ho, hcs, hrst, hv]

/-- Settles O19: the byte is the one the pulse samples, and the equation of the read pulse gives the rest. The environment
fixes the byte by its list, or by the device model. -/
theorem readByteSamplesThePins : Obligations.ReadByteSamplesThePins := by
  obtain ⟨-, -, hdec⟩ := requestFieldsDecodeAsTabled
  refine ⟨fun w => ?_, fun s => ⟨_, s.pulseByte, exec_eq_outcome .rdb s, ?_⟩⟩
  · obtain ⟨-, -, hrdb, -⟩ := hdec w
    exact hrdb
  · rw [State.outcome_rdb, State.readPulse_eq]
    refine ⟨⟨rfl, rfl, rfl⟩, ⟨rfl, rfl, rfl, rfl, rfl, rfl, rfl, rfl⟩, rfl, State.trace_of_log rfl, rfl, rfl, rfl, rfl,
      fun b bs h => ?_, fun b => State.pulseByte_device, ?_⟩
    · exact ⟨State.pulseByte_script h, congrArg Oracle.afterSample h⟩
    · exact (apply_ite Device.drawn _ _ _).trans (if_congr s.bus.selects_iff rfl rfl)

end Sys2Proof.Machine
end

section
/-! PROOFS. Word Protocol (41_word_protocol.md R62 to R64): the transfers of each sequence out of reset (20_memory.md R33), and
the sequence's equation read field by field. -/

namespace Sys2Proof.Machine

/-! ### The transfers -/

/-- `SENDCMD` selects the device itself, so that only reset keeps its byte from being a command transfer (R33, R62). -/
theorem Bus.transfers_sendCmdEvents {b : Bus} (h : b.rst = false) (v : Byte) :
    b.transfers (sendCmdEvents v) = commandTransfers [v] := by
  obtain ⟨cs, cd, rd, wr, rst, dir, dout, pulse⟩ := b
  cases h
  rfl

/-- Out of reset both bytes of `WRWORD` are data transfers (R33, R63). -/
theorem Bus.transfers_wrWordEvents {b : Bus} (h : b.rst = false) (v : Word) :
    b.transfers (wrWordEvents v) = wordTransfers v := by
  obtain ⟨cs, cd, rd, wr, rst, dir, dout, pulse⟩ := b
  cases h
  rfl

/-- Out of reset all three bytes of `RDWORD`, the discarded one too, are data transfers (R33, R64). -/
theorem Bus.transfers_rdWordEvents {b : Bus} (h : b.rst = false) (d hi lo : Byte) :
    b.transfers (rdWordEvents d hi lo) = readTransfers d hi lo := by
  obtain ⟨cs, cd, rd, wr, rst, dir, dout, pulse⟩ := b
  cases h
  rfl

/-! ### The operations -/

theorem State.outcome_sendCmd (s : State) (b : Byte) : s.outcome (.sendCmd b) = (s.sendCommand b).finish statusOk :=
  State.outcome_of_accepted rfl

theorem State.outcome_wrWord (s : State) (v : Word) : s.outcome (.wrWord v) = (s.writeWord v).finish statusOk :=
  State.outcome_of_accepted rfl

theorem State.outcome_rdWord (s : State) : s.outcome .rdWord = s.readWord.rdataFromW.finish statusOk :=
  State.outcome_of_accepted rfl

/-- Settles O22: the equation of `SENDCMD`'s actions, read field by field. -/
theorem sendCommandSendsOneByte : Obligations.SendCommandSendsOneByte := by
  obtain ⟨-, -, hdec⟩ := requestFieldsDecodeAsTabled
  refine ⟨fun w => ?_, fun b s => ⟨_, exec_eq_outcome (.sendCmd b) s, ?_⟩⟩
  · obtain ⟨-, -, -, -, -, -, hsendCmd, -⟩ := hdec w
    exact hsendCmd
  · rw [State.outcome_sendCmd, State.sendCommand_eq]
    exact ⟨⟨rfl, rfl, rfl⟩, ⟨⟨rfl, rfl, rfl, rfl, rfl, rfl, rfl, rfl⟩, rfl, rfl, rfl⟩, State.trace_of_log rfl,
      fun h => Bus.transfers_sendCmdEvents h b, rfl, rfl, rfl, rfl⟩

/-- Settles O23: the word is written to `W`, and the equation of the actions that send `W` gives the rest. -/
theorem writeWordSendsHighByteFirst : Obligations.WriteWordSendsHighByteFirst := by
  obtain ⟨-, -, hdec⟩ := requestFieldsDecodeAsTabled
  refine ⟨fun w => ?_, fun v s => ⟨_, exec_eq_outcome (.wrWord v) s, ?_⟩⟩
  · obtain ⟨-, -, -, -, -, -, -, hwrWord, -⟩ := hdec w
    exact hwrWord
  · rw [State.outcome_wrWord, State.writeWord, State.sendWord_eq]
    exact ⟨⟨rfl, rfl, rfl⟩, ⟨rfl, rfl, rfl, rfl, rfl, rfl, rfl, rfl⟩, rfl, rfl, rfl, State.trace_of_log rfl,
      fun h => Bus.transfers_wrWordEvents h v, rfl, rfl, rfl, rfl⟩

/-- Settles O24: the bytes are the three the pulses sample, which an environment's list fixes; the device meets the events, and
the equation of `RDWORD`'s actions gives the rest. -/
theorem readWordDiscardsOneByte : Obligations.ReadWordDiscardsOneByte := by
  obtain ⟨-, -, hdec⟩ := requestFieldsDecodeAsTabled
  refine ⟨fun w => ?_, fun s => ⟨_, s.dummyByte, s.highRead, s.lowRead, exec_eq_outcome .rdWord s, ?_⟩⟩
  · obtain ⟨-, -, -, -, -, -, -, -, hrdWord, -⟩ := hdec w
    exact hrdWord
  · obtain ⟨-, -, hdev⟩ := State.Ran.readWord s
    rw [State.readWord_eq] at hdev
    rw [State.outcome_rdWord, State.readWord_eq]
    refine ⟨⟨rfl, rfl, rfl⟩, ⟨rfl, rfl, rfl, rfl, rfl, rfl, rfl, rfl⟩, State.trace_of_log rfl,
      fun h => Bus.transfers_rdWordEvents h _ _ _, rfl, rfl, rfl, rfl, rfl, fun a b c bs h => ?_, hdev⟩
    obtain ⟨hd, hhi, hlo⟩ := State.Supplies.readBytes ⟨bs, h⟩
    exact ⟨hd, hhi, hlo, congrArg (·.afterSample.afterSample.afterSample) h⟩

end Sys2Proof.Machine
end

section
/-! PROOFS. Pixel Addressing: the pure functions (42_pixel_addressing.md R65 to R72). The translation is one equation per mode
between a coordinate and its column and sub-position; update is one equation per bit. -/

namespace Sys2Proof.Machine

/-! ### The translation -/

theorem subPositionPerm_val : ∀ p : Fin 3, (subPositionPerm p).val = 2 * p.val % 3 := by decide

/-- Not mirrored: `x` is laid out from the left of column 37 (R66, R67). -/
theorem toNat_eq_of_notMirrored (x : Byte) :
    x.toNat + 111 = 3 * pixelColumn x false + (subPosition x false).val := by
  have hc : pixelColumn x false = 37 + x.toNat / 3 := rfl
  have hp : (subPosition x false).val = x.toNat % 3 := rfl
  omega

/-- Mirrored: sub-positions count down towards the left, and 0 stands for the start of the column (R66, R67). -/
theorem toNat_eq_of_mirrored (x : Byte) :
    x.toNat + (subPosition x true).val + 111 = 3 * pixelColumn x true := by
  have hc : pixelColumn x true = 37 + (x.toNat + 2) / 3 := rfl
  have hp : (subPosition x true).val = 2 * (x.toNat % 3) % 3 := subPositionPerm_val (mod3 x)
  omega

/-- A coordinate is determined by its column and sub-position (R78c). -/
theorem eq_of_sameSubPixel {x x' : Byte} {my : Bool} (hc : pixelColumn x my = pixelColumn x' my)
    (hp : subPosition x my = subPosition x' my) : x = x' := by
  apply BitVec.eq_of_toNat_eq
  cases my with
  | false =>
    have h := toNat_eq_of_notMirrored x
    rw [hc, hp, ← toNat_eq_of_notMirrored x'] at h
    omega
  | true =>
    have h := toNat_eq_of_mirrored x
    rw [hc, hp, ← toNat_eq_of_mirrored x'] at h
    omega

/-- Which coordinate lies on a sub-pixel, not mirrored (R66, R67). -/
theorem subPixel_iff_of_notMirrored (x : Byte) (c : Nat) (p : Fin 3) :
    pixelColumn x false = c ∧ subPosition x false = p ↔ x.toNat + 111 = 3 * c + p.val := by
  have h := toNat_eq_of_notMirrored x
  rw [Fin.ext_iff]
  omega

/-- Which coordinate lies on a sub-pixel, mirrored (R66, R67). -/
theorem subPixel_iff_of_mirrored (x : Byte) (c : Nat) (p : Fin 3) :
    pixelColumn x true = c ∧ subPosition x true = p ↔ x.toNat + p.val + 111 = 3 * c := by
  have h := toNat_eq_of_mirrored x
  rw [Fin.ext_iff]
  omega

/-- Some byte up to 159 has the given value exactly when the value is at most 159. -/
theorem exists_byte_iff {P : Nat → Prop} : (∃ x : Byte, x.toNat ≤ 159 ∧ P x.toNat) ↔ ∃ n, n ≤ 159 ∧ P n := by
  refine ⟨fun ⟨x, hx, h⟩ => ⟨x.toNat, hx, h⟩, fun ⟨n, hn, h⟩ => ⟨BitVec.ofNat 8 n, ?_⟩⟩
  have e : (BitVec.ofNat 8 n).toNat = n := Nat.mod_eq_of_lt (by omega)
  rw [e]
  exact ⟨hn, h⟩

/-- The sub-pixels of the window that no coordinate reaches: the two outer ones of the last column reached (R78d). -/
theorem unreached_iff {c : Nat} (p : Fin 3) (my : Bool) (h1 : 37 ≤ c) (h2 : c ≤ 90) :
    (¬∃ x : Byte, x.toNat ≤ 159 ∧ pixelColumn x my = c ∧ subPosition x my = p) ↔ p ≠ 0 ∧ c = if my then 37 else 90 := by
  have hp : p ≠ 0 ↔ p.val ≠ 0 := Fin.ext_iff.not
  rw [hp]
  cases my with
  | false =>
    simp only [subPixel_iff_of_notMirrored, exists_byte_iff (P := fun n => n + 111 = 3 * c + p.val)]
    constructor
    · intro h
      by_contra hc
      simp only [Bool.false_eq_true, if_false] at hc
      exact h ⟨3 * c + p.val - 111, by omega, by omega⟩
    · simp only [Bool.false_eq_true, if_false]
      rintro ⟨h0, rfl⟩ ⟨n, hn, h⟩
      omega
  | true =>
    simp only [subPixel_iff_of_mirrored, exists_byte_iff (P := fun n => n + p.val + 111 = 3 * c)]
    constructor
    · intro h
      by_contra hc
      simp only [if_true] at hc
      exact h ⟨3 * c - p.val - 111, by omega, by omega⟩
    · simp only [if_true]
      rintro ⟨h0, rfl⟩ ⟨n, hn, h⟩
      omega

/-- The columns of the coordinates of the screen, and of all bytes (R66). -/
theorem pixelColumn_range (x : Byte) (my : Bool) :
    37 ≤ pixelColumn x my ∧ pixelColumn x my ≤ 122 ∧ (x.toNat ≤ 159 → pixelColumn x my ≤ 90) := by
  have hx := x.isLt
  cases my with
  | false => have h := toNat_eq_of_notMirrored x; omega
  | true => have h := toNat_eq_of_mirrored x; omega

/-- Settles O7: each clause is the equation of its mode, solved. -/
theorem translationLaysPixelsInThrees : Obligations.TranslationLaysPixelsInThrees := by
  have ofNat_toNat : ∀ {n : Nat}, n < 256 → (BitVec.ofNat 8 n).toNat = n := Nat.mod_eq_of_lt
  refine ⟨fun k j hj hk => ?_, ⟨rfl, rfl, fun x hc => ?_⟩, fun k j hj hk => ?_, fun x x' my _ _ => eq_of_sameSubPixel,
    fun x my hx => ?_, fun c p my => unreached_iff p my, fun x x' my hx => ?_⟩
  · have h := toNat_eq_of_notMirrored (BitVec.ofNat 8 (3 * k + j))
    rw [ofNat_toNat hk] at h
    omega
  · have h := toNat_eq_of_mirrored x
    exact BitVec.eq_of_toNat_eq (show x.toNat = 0 by omega)
  · have h := toNat_eq_of_mirrored (BitVec.ofNat 8 (3 * k + 1 + j))
    rw [ofNat_toNat hk] at h
    omega
  · obtain ⟨h1, -, h2⟩ := pixelColumn_range x my
    exact ⟨h1, h2 hx⟩
  · cases my with
    | false => exact (subPixel_iff_of_notMirrored x' _ _).mpr (by have := toNat_eq_of_notMirrored x; omega)
    | true => exact (subPixel_iff_of_mirrored x' _ _).mpr (by have := toNat_eq_of_mirrored x; omega)

/-- The range checks (R72). -/
theorem inRangeRow_iff (n : Nat) : inRangeRow n = true ↔ n ≤ 159 := decide_eq_true_iff

theorem inRangeColumn_iff (n : Nat) : inRangeColumn n = true ↔ 37 ≤ n ∧ n ≤ 90 := decide_eq_true_iff

/-- The coordinates the column check accepts in each mode (R72). -/
theorem inRangeColumn_pixelColumn_iff (x : Byte) (my : Bool) :
    inRangeColumn (pixelColumn x my) = true ↔ if my then x.toNat ≤ 159 else x.toNat ≤ 161 := by
  rw [inRangeColumn_iff]
  cases my with
  | false => 
    have h := toNat_eq_of_notMirrored x
    simp only [Bool.false_eq_true, if_false]
    omega
  | true =>
    have h := toNat_eq_of_mirrored x
    simp only [if_true]
    omega

/-- Settles O10: the formulas as they are defined, and the column's equation per mode solved for the coordinate. -/
theorem rangeCheckAcceptsTheseCoordinates : Obligations.RangeCheckAcceptsTheseCoordinates := by
  refine ⟨fun n => ⟨inRangeRow_iff n, inRangeColumn_iff n⟩, fun x y my => ?_, rfl, rfl, rfl, rfl⟩
  have hp : (subPosition x true).val = 2 * (x.toNat % 3) % 3 := subPositionPerm_val (mod3 x)
  obtain ⟨h1, h2, h3⟩ := pixelColumn_range x my
  exact ⟨rfl, rfl, rfl, rfl, by omega, by omega, by omega, fun hx => ⟨h1, h3 hx⟩, h1, h2, inRangeRow_iff _,
    inRangeColumn_pixelColumn_iff x my⟩

/-! ### Fields of a word -/

/-- The fields do not overlap (R68). -/
theorem fieldMask_disjoint : ∀ p q : Fin 3, p ≠ q → fieldMask p &&& fieldMask q = 0#16 := by decide

/-- Every bit after an update: forced inside the field, kept outside (R70). -/
theorem getLsbD_updateWord (w : Word) (p : Fin 3) (on : Bool) {i : Nat} (hi : i < 16) :
    (updateWord w p on).getLsbD i = if (fieldMask p).getLsbD i then on else w.getLsbD i := by
  cases on <;> cases h : (fieldMask p).getLsbD i <;> 
    simp [-BitVec.getLsbD_eq_getElem, updateWord, h, hi]

/-- The last update of a field counts (R70). -/
theorem updateWord_updateWord (w : Word) (p : Fin 3) (a b : Bool) :
    updateWord (updateWord w p a) p b = updateWord w p b := by
  apply BitVec.eq_of_getLsbD_eq
  intro i hi
  rw [getLsbD_updateWord _ _ _ hi, getLsbD_updateWord _ _ _ hi, getLsbD_updateWord _ _ _ hi]
  split <;> rfl

/-- Updates of two fields commute, as no bit is in both (R70). -/
theorem updateWord_comm (w : Word) {p q : Fin 3} (a b : Bool) (hpq : p ≠ q) :
    updateWord (updateWord w p a) q b = updateWord (updateWord w q b) p a := by
  apply BitVec.eq_of_getLsbD_eq
  intro i hi
  have hdis : (fieldMask p &&& fieldMask q).getLsbD i = false := by simp [fieldMask_disjoint p q hpq]
  rw [BitVec.getLsbD_and] at hdis
  simp only [getLsbD_updateWord _ _ _ hi]
  cases hp : (fieldMask p).getLsbD i with
  | false => rfl
  | true =>
    rw [hp, Bool.true_and] at hdis
    simp [hdis]

/-- Settles O8: the two cases are the definition; the laws hold bit by bit, inside the field and outside. -/
theorem updateTouchesOneFieldOnly : Obligations.UpdateTouchesOneFieldOnly := by
  intro w p q a b
  refine ⟨rfl, rfl, ?_, ?_, ?_, updateWord_updateWord w p a a, updateWord_comm w a b⟩
  all_goals
    apply BitVec.eq_of_getLsbD_eq
    intro i hi
    cases h : (fieldMask p).getLsbD i <;>
      simp [-BitVec.getLsbD_eq_getElem, getLsbD_updateWord _ _ _ hi, h, hi]

/-- Settles O9: the masks and the eight words evaluated; a field of the packed word is full or clear. -/
theorem packedWordsAreTheEight : Obligations.PackedWordsAreTheEight :=
  ⟨rfl, rfl, rfl, fieldMask_disjoint, by decide, fun _ _ _ => rfl, by decide, rfl, rfl, rfl, rfl, rfl, rfl, rfl, rfl⟩

end Sys2Proof.Machine
end

section
/-! PROOFS. Pixel Addressing: the operations (42_pixel_addressing.md R73 to R77): the range check decides between the reject
and the actions, and the equation of the actions is read field by field. -/

namespace Sys2Proof.Machine

/-! ### The range check -/

/-- `DRAWPIXEL` is rejected exactly for a coordinate out of range (R72, R75). -/
theorem State.rejectCause_drawPixel (s : State) (x y : Byte) (on : Bool) :
    s.rejectCause (.drawPixel x y on) =
      if y.toNat ≤ 159 ∧ (if s.mirror.my then x.toNat ≤ 159 else x.toNat ≤ 161) then none else some .rejectRange := by
  show (if (inRangeRow (pixelRow y) && inRangeColumn (pixelColumn x s.mirror.my)) = true then none
    else some RejectCause.rejectRange) = _
  refine if_congr ?_ rfl rfl
  rw [Bool.and_eq_true, inRangeRow_iff, inRangeColumn_pixelColumn_iff, pixelRow]

theorem State.rejectCause_setCol (s : State) (c : Byte) :
    s.rejectCause (.setCol c) = if 37 ≤ c.toNat ∧ c.toNat ≤ 90 then none else some .rejectRange :=
  if_congr (inRangeColumn_iff _) rfl rfl

theorem State.rejectCause_setRow (s : State) (r : Byte) :
    s.rejectCause (.setRow r) = if r.toNat ≤ 159 then none else some .rejectRange :=
  if_congr (inRangeRow_iff _) rfl rfl

/-- A request with this cause ends with it, whatever the instruction (R86, R90). -/
theorem exec_of_rejected {s : State} {i : Instr} {c : RejectCause} (h : s.rejectCause i = some c) :
    exec i s = .next (s.reject c) := by
  rw [exec_eq_outcome, State.outcome_of_rejected h]

theorem exec_of_accepted {s : State} {i : Instr} (h : s.rejectCause i = none) :
    exec i s = .next ((s.perform i).finish statusOk) := by
  rw [exec_eq_outcome, State.outcome_of_accepted h]

/-- Settles O26: each range check picks the reject. -/
theorem outOfRangeRequestsAreRejected : Obligations.OutOfRangeRequestsAreRejected := by
  refine fun s => ⟨fun c h => ?_, fun r h => ?_, fun x y on h => ?_⟩
  · exact exec_of_rejected ((s.rejectCause_setCol c).trans (if_neg (by omega)))
  · exact exec_of_rejected ((s.rejectCause_setRow r).trans (if_neg (by omega)))
  · refine exec_of_rejected ((s.rejectCause_drawPixel x y on).trans (if_neg ?_))
    intro hin
    cases hm : s.mirror.my <;> simp only [hm, Bool.false_eq_true, if_true, if_false] at h hin <;> omega

/-! ### Addresses -/

/-- A column in range is accepted (R73). -/
theorem exec_setCol {c : Byte} (s : State) (h1 : 37 ≤ c.toNat) (h2 : c.toNat ≤ 90) :
    exec (.setCol c) s = .next ((s.setCol (c.setWidth 7)).sendColumn.finish statusOk) :=
  exec_of_accepted ((s.rejectCause_setCol c).trans (if_pos ⟨h1, h2⟩))

/-- A row in range is accepted (R74). -/
theorem exec_setRow {r : Byte} (s : State) (h : r.toNat ≤ 159) :
    exec (.setRow r) s = .next ((s.setRow r).sendRow.finish statusOk) :=
  exec_of_accepted ((s.rejectCause_setRow r).trans (if_pos h))

/-- Settles O25: the register is written, and the equation of the two commands gives the rest. -/
theorem addressOperationsSendTwoBytes : Obligations.AddressOperationsSendTwoBytes := by
  refine ⟨fun c s h1 h2 => ⟨_, exec_setCol s h1 h2, ?_⟩, fun r s h => ⟨_, exec_setRow s h, ?_⟩⟩
  · have hdev := s.dev.run_commands (columnBytes (c.setWidth 7))
    have hcol : (c.setWidth 7).toNat = c.toNat := by
      rw [BitVec.toNat_setWidth]
      exact Nat.mod_eq_of_lt (show c.toNat < 2 ^ 7 by omega)
    rw [State.sendColumn_eq]
    exact ⟨⟨rfl, rfl, rfl⟩, ⟨⟨rfl, rfl, rfl, rfl, rfl, rfl, rfl, rfl⟩, rfl, rfl, rfl⟩, hcol, State.trace_of_log rfl, rfl,
      rfl, rfl, by rw [hdev]; rfl⟩
  · have hdev := s.dev.run_commands (rowBytes r)
    rw [State.sendRow_eq]
    exact ⟨⟨rfl, rfl, rfl⟩, ⟨⟨rfl, rfl, rfl, rfl, rfl, rfl, rfl, rfl⟩, rfl, rfl, rfl⟩, State.trace_of_log rfl, rfl,
      rfl, rfl, by rw [hdev]; rfl⟩

/-! ### DRAWPIXEL -/

theorem Bus.transfers_append (b : Bus) (es fs : List Event) :
    b.transfers (es ++ fs) = b.transfers es ++ (b.run es).transfers fs := by
  induction es generalizing b with
  | nil => rfl
  | cons e es ih =>
    simp only [List.cons_append, Bus.transfers, Bus.run_cons, ih, List.append_assoc]

/-- Commands do not touch the reset line (R62). -/
theorem Bus.run_commandEvents_rst (b : Bus) (bs : List Byte) : (b.run (commandEvents bs)).rst = b.rst := by
  induction bs generalizing b with
  | nil => rfl
  | cons v bs ih => exact (congrArg Bus.rst (b.run_append (sendCmdEvents v) (commandEvents bs))).trans (ih _)

theorem Bus.run_rdWordEvents_rst (b : Bus) (d hi lo : Byte) : (b.run (rdWordEvents d hi lo)).rst = b.rst := rfl

/-- Out of reset each command of a list is a command transfer (R33, R62). -/
theorem Bus.transfers_commandEvents {b : Bus} (h : b.rst = false) (bs : List Byte) :
    b.transfers (commandEvents bs) = commandTransfers bs := by
  induction bs generalizing b with
  | nil => rfl
  | cons v bs ih =>
    show b.transfers (sendCmdEvents v ++ commandEvents bs) = _
    rw [Bus.transfers_append, Bus.transfers_sendCmdEvents h, ih (b := b.run (sendCmdEvents v)) h]
    rfl

/-- Settles O28: the four parts of the events move their transfers one after another, and none ends the reset. -/
theorem drawPixelMovesThirteenTransfers : Obligations.DrawPixelMovesThirteenTransfers := by
  intro b c r p on d hi lo h
  refine ⟨?_, rfl, rfl⟩
  have h1 : (b.run (commandEvents (addressBytes c r))).rst = false := (b.run_commandEvents_rst _).trans h
  have h2 := (Bus.run_rdWordEvents_rst _ d hi lo).trans h1
  have h3 := (Bus.run_commandEvents_rst _ (addressBytes c r)).trans h2
  simp only [drawPixelEvents, drawPixelTransfers, Bus.transfers_append, Bus.run_append, Bus.transfers_commandEvents h,
    Bus.transfers_rdWordEvents h1, Bus.transfers_commandEvents h2, Bus.transfers_wrWordEvents h3]

theorem toNat_positionBits : ∀ p : Fin 3, (positionBits p).toNat = p.val := by decide

/-- The registers `DRAWPIXEL` writes first (R75). -/
theorem State.setTarget_registers (s : State) {x : Byte} (y : Byte)
    (hx : if s.mirror.my then x.toNat ≤ 159 else x.toNat ≤ 161) :
    (s.setTarget x y).row = y ∧ (s.setTarget x y).col.toNat = pixelColumn x s.mirror.my ∧
    (s.setTarget x y).pos.toNat = (subPosition x s.mirror.my).val :=
  ⟨BitVec.ofNat_toNat 8 y, toNat_ofNat_column ((inRangeColumn_pixelColumn_iff x _).mpr hx), toNat_positionBits _⟩

/-- An accepted `DRAWPIXEL` runs (R75). -/
theorem exec_drawPixel {s : State} {x y : Byte} (on : Bool) (hy : y.toNat ≤ 159)
    (hx : if s.mirror.my then x.toNat ≤ 159 else x.toNat ≤ 161) :
    exec (.drawPixel x y on) s =
      .next (((s.setTarget x y).updatePixel (subPosition x s.mirror.my) on).finish statusOk) :=
  exec_of_accepted ((s.rejectCause_drawPixel x y on).trans (if_pos ⟨hy, hx⟩))

/-- Settles O27: the bytes are the three the read samples, which an environment's list fixes; the equation of the actions gives
the rest. -/
theorem drawPixelReadsModifiesWrites : Obligations.DrawPixelReadsModifiesWrites := by
  intro x y on s hy hx
  obtain ⟨hrow, hcol, hpos⟩ := s.setTarget_registers y hx
  refine ⟨_, (s.setTarget x y).sendAddress.dummyByte, (s.setTarget x y).sendAddress.highRead,
    (s.setTarget x y).sendAddress.lowRead, exec_drawPixel on hy hx, ?_⟩
  rw [State.updatePixel_eq _ _ on rfl rfl rfl, hrow]
  refine ⟨⟨rfl, rfl, rfl⟩, rfl, hcol, hpos, rfl, rfl, rfl, rfl, rfl, rfl, rfl, rfl, State.trace_of_log rfl, rfl, rfl,
    fun a b c bs ho => ?_, rfl⟩
  obtain ⟨hd, hhi, hlo⟩ := ((show s.Supplies a b c from ⟨bs, ho⟩).setTarget x y).sendAddress.readBytes
  exact ⟨hd, hhi, hlo, congrArg (·.afterSample.afterSample.afterSample) ho⟩

/-! ### FILLSCREEN and DRAWTRIPLET -/

theorem packWord_same : ∀ on : Bool, packWord on on on = if on then 0xFFFF#16 else 0#16 := by decide

theorem lowByte_packWord_same : ∀ on : Bool, lowByte (packWord on on on) = if on then 0xFF#8 else 0#8 := by decide

/-- 54 columns of 160 rows (R76). -/
theorem length_fillOrder : fillOrder.length = 8640 := by
  simp [fillOrder]

/-- `FILLSCREEN` has no reject (R76). -/
theorem exec_fillScreen (on : Bool) (s : State) :
    exec (.fillScreen on) s = .next ((s.setW (packWord on on on)).fillWindow.finish statusOk) := rfl

/-- `DRAWTRIPLET` has no reject (R77). -/
theorem exec_drawTriplet (p1 p2 p3 : Bool) (s : State) :
    exec (.drawTriplet p1 p2 p3) s = .next ((s.writeWord (packWord p1 p2 p3)).finish statusOk) := rfl

/-- Settles O29: the fill word is written to `W`, and the equation of the loops gives the rest. -/
theorem fillScreenWritesEveryWord : Obligations.FillScreenWritesEveryWord := by
  refine fun on s => ⟨_, exec_fillScreen on s, ?_⟩
  have hlow := lowByte_packWord_same on
  rw [State.fillWindow_eq, ← hlow]
  exact ⟨⟨rfl, rfl, rfl⟩, packWord_same on, rfl, rfl, rfl, rfl, rfl, rfl, rfl, rfl, rfl, State.trace_of_log rfl,
    length_fillOrder, rfl, rfl⟩

/-- Settles O30: `WRWORD`'s actions with the packed word. -/
theorem drawTripletWritesThePackedWord : Obligations.DrawTripletWritesThePackedWord := by
  obtain ⟨-, -, hdec⟩ := requestFieldsDecodeAsTabled
  refine ⟨fun w => ?_, fun p1 p2 p3 s => ⟨_, exec_drawTriplet p1 p2 p3 s, ?_⟩⟩
  · obtain ⟨-, -, -, -, -, -, -, -, -, -, -, -, -, htriplet, -⟩ := hdec w
    exact htriplet
  · rw [State.writeWord, State.sendWord_eq]
    exact ⟨⟨rfl, rfl, rfl⟩, ⟨rfl, rfl, rfl, rfl, rfl, rfl, rfl, rfl⟩, rfl, rfl, rfl, State.trace_of_log rfl, rfl, rfl,
      rfl, rfl⟩

end Sys2Proof.Machine
end

section
/-! PROOFS. The pixel operations under the device model (42_pixel_addressing.md R75 (h), R76 (f)): an addressed read and an
addressed write give `DRAWPIXEL`, addressed writes one after another give `FILLSCREEN`. -/

namespace Sys2Proof.Machine

/-! ### Addressed accesses by the block -/

/-- The four address commands of the block address a ready device at `ROW`, `COL` (R24, R36). -/
theorem State.sendAddress_addresses {s : State} (h : s.deviceReady) :
    s.dev.AddressedFrom s.sendAddress.dev s.row.toNat s.col.toNat := by
  obtain ⟨hrst, hvb, hph⟩ := h
  have hdev : s.sendAddress.dev = s.dev.takeCommands (addressBytes s.col s.row) := by
    rw [State.sendAddress_eq]
    exact if_neg (by simp [hrst])
  rw [hdev]
  exact s.dev.addressed s.col s.row hvb hph

/-- An address and `W` sent: the word is stored at `ROW`, `COL` (R40a). -/
theorem State.addressedSend {s : State} (h : s.deviceReady) (hw : Memory.inWindow s.row.toNat s.col.toNat = true) :
    s.dev.StoredFrom s.sendAddress.sendWord.dev s.row.toNat s.col.toNat (highByte s.w) (lowByte s.w) := by
  have ha := State.sendAddress_addresses h
  have hst := Device.storedAt (.inl ha.ph) ha.cursorAt hw (highByte s.w) (lowByte s.w)
  obtain ⟨hrst, hvb, -⟩ := h
  have hdev : s.sendAddress.sendWord.dev =
      s.sendAddress.dev.run [.write false (highByte s.w), .write false (lowByte s.w)] := by
    rw [State.sendWord_eq, State.sendAddress_eq]
    exact if_neg (by simp [hrst])
  rw [hdev]
  exact ⟨hst.mem.trans (by rw [ha.mem]), hst.epoch.trans ha.epoch, hst.cursor, hst.ph,
    hst.vb.trans (ha.vb.trans hvb.symm)⟩

/- What the sequences keep of what a ready device and the device model ask for. -/

theorem State.sendAddress_rst (s : State) : s.sendAddress.bus.rst = s.bus.rst := by rw [State.sendAddress_eq]
theorem State.sendAddress_oracle (s : State) : s.sendAddress.oracle = s.oracle := by rw [State.sendAddress_eq]
theorem State.sendAddress_row (s : State) : s.sendAddress.row = s.row := by rw [State.sendAddress_eq]
theorem State.sendAddress_col (s : State) : s.sendAddress.col = s.col := by rw [State.sendAddress_eq]
theorem State.sendAddress_w (s : State) : s.sendAddress.w = s.w := by rw [State.sendAddress_eq]
theorem State.readWord_rst (s : State) : s.readWord.bus.rst = s.bus.rst := by rw [State.readWord_eq]
theorem State.readWord_row (s : State) : s.readWord.row = s.row := by rw [State.readWord_eq]
theorem State.readWord_col (s : State) : s.readWord.col = s.col := by rw [State.readWord_eq]
theorem State.readWord_w (s : State) : s.readWord.w = joinWord s.highRead s.lowRead := by rw [State.readWord_eq]
theorem State.sendWord_w (s : State) : s.sendWord.w = s.w := by rw [State.sendWord_eq]

theorem State.updatePixel_rst (s : State) (p : Fin 3) (on : Bool) : (s.updatePixel p on).bus.rst = s.bus.rst := by
  rw [State.updatePixel_eq s p on rfl rfl rfl]
theorem State.updatePixel_oracle_device {s : State} (p : Fin 3) (on : Bool) (h : s.oracle = .device) :
    (s.updatePixel p on).oracle = .device := by
  rw [State.updatePixel_eq s p on rfl rfl rfl]
  exact congrArg (·.afterSample.afterSample.afterSample) h

theorem Device.sameRam.word_eq {d e : Device} (h : d.sameRam e) (r c : Nat) : e.word r c = d.word r c :=
  congrArg₂ joinWord (h _) (h _)

/-- What an addressed read under the device model leaves (R40b): `W` holds the word at `ROW`, `COL`, RAM is kept, and the device
is ready again. -/
structure State.ReadFrom (s t : State) : Prop where
  w : t.w = s.dev.word s.row.toNat s.col.toNat
  mem : t.dev.mem = s.dev.mem
  epoch : t.dev.epoch = s.dev.epoch
  ready : t.deviceReady
  row : t.row = s.row
  col : t.col = s.col

theorem State.addressedRead {s : State} (h : s.deviceReady) (hw : Memory.inWindow s.row.toNat s.col.toNat = true)
    (ho : s.oracle = .device) : s.ReadFrom s.sendAddress.readWord := by
  have ha := State.sendAddress_addresses h
  obtain ⟨hrst, -, -⟩ := h
  have hrst' := s.sendAddress_rst.trans hrst
  obtain ⟨hhigh, hlow, hmem, hep, -, -, hph, hvb⟩ := s.sendAddress.readWord_addressed hrst' ha.ph
    (Device.inWindow_of_cursorAt ha.cursorAt hw) (s.sendAddress_oracle.trans ho)
  refine ⟨?_, hmem.trans ha.mem, hep.trans ha.epoch, ⟨(State.readWord_rst _).trans hrst', hvb.trans ha.vb, ?_⟩,
    (State.readWord_row _).trans s.sendAddress_row, (State.readWord_col _).trans s.sendAddress_col⟩
  · rw [State.readWord_w, hhigh, hlow, ha.row, ha.col]
    exact (Device.sameRam_of_eq ha.mem ha.epoch).word_eq _ _
  · rw [hph]
    exact nofun

/-! ### DRAWPIXEL -/

/-- Steps 4 to 6 of `DRAWPIXEL` after an addressed read store the word read, updated (R75). -/
theorem State.ReadFrom.stores {s t : State} (h : s.ReadFrom t) (hw : Memory.inWindow s.row.toNat s.col.toNat = true)
    (p : Fin 3) (on : Bool) {v : Word} (hv : v = updateWord (s.dev.word s.row.toNat s.col.toNat) p on) :
    t.dev.StoredFrom (t.modifyW p on).sendAddress.sendWord.dev s.row.toNat s.col.toNat (highByte v) (lowByte v) ∧
    (t.modifyW p on).sendAddress.sendWord.w = v := by
  have hmw : (t.modifyW p on).w = v := by
    rw [hv, ← h.w]
    rfl
  refine ⟨?_, (State.sendWord_w _).trans ((State.sendAddress_w _).trans hmw)⟩
  rw [← h.row, ← h.col] at hw ⊢
  rw [← hmw]
  exact State.addressedSend (s := t.modifyW p on) h.ready hw

/-- What writing the pixel's word `v` at (`r`, `c`) leaves under the device model: the word stored, and all that a `DRAWPIXEL`
after it asks for. -/
structure State.DrawnFrom (s t : State) (r c : Nat) (v : Word) : Prop where
  stored : s.dev.StoredFrom t.dev r c (highByte v) (lowByte v)
  w : t.w = v
  ready : t.deviceReady
  oracle : t.oracle = .device
  mirror : t.mirror = s.mirror

/-- Steps 2 to 6 of `DRAWPIXEL` under the device model store the word of RAM, updated, at `ROW`, `COL` (R75h). -/
theorem State.updatePixel_draws {s : State} (h : s.deviceReady) (ho : s.oracle = .device)
    (hw : Memory.inWindow s.row.toNat s.col.toNat = true) (p : Fin 3) (on : Bool) :
    s.DrawnFrom (s.updatePixel p on) s.row.toNat s.col.toNat
      (updateWord (s.dev.word s.row.toNat s.col.toNat) p on) := by
  have hread := State.addressedRead h hw ho
  obtain ⟨hst, hval⟩ := hread.stores hw p on rfl
  obtain ⟨hrst, hvb, -⟩ := h
  obtain ⟨-, hvb', -⟩ := hread.ready
  have hvb'' := hst.vb.trans hvb'
  refine ⟨⟨hst.mem.trans (by rw [hread.mem]), hst.epoch.trans hread.epoch, hst.cursor, hst.ph, hvb''.trans hvb.symm⟩, hval,
    ⟨(s.updatePixel_rst p on).trans hrst, hvb'', ?_⟩, State.updatePixel_oracle_device p on ho,
    (State.Kept.updatePixel s p on).mirror_eq⟩
  rw [State.updatePixel, hst.ph]
  exact nofun

section
variable {s t : State} {x y : Byte} {r c : Nat} {v : Word}

/- The response and the registers written first are no part of it. -/

theorem State.DrawnFrom.finish (h : s.DrawnFrom t r c v) (status : BitVec 3) : s.DrawnFrom (t.finish status) r c v :=
  ⟨h.stored, h.w, h.ready, h.oracle, h.mirror⟩

theorem State.DrawnFrom.of_setTarget (h : (s.setTarget x y).DrawnFrom t r c v) : s.DrawnFrom t r c v :=
  ⟨h.stored, h.w, h.ready, h.oracle, h.mirror⟩

end

/-- `DRAWPIXEL` on a ready device under the device model (R75h). -/
theorem State.drawPixel_draws {s : State} {x y : Byte} (on : Bool) (hy : y.toNat ≤ 159)
    (hx : if s.mirror.my then x.toNat ≤ 159 else x.toNat ≤ 161) (h : s.deviceReady) (ho : s.oracle = .device) :
    ∃ t, exec (.drawPixel x y on) s = .next t ∧ s.DrawnFrom t y.toNat (pixelColumn x s.mirror.my)
      (updateWord (s.dev.word y.toNat (pixelColumn x s.mirror.my)) (subPosition x s.mirror.my) on) := by
  obtain ⟨hrow, hcol, -⟩ := s.setTarget_registers y hx
  have hw : Memory.inWindow y.toNat (pixelColumn x s.mirror.my) = true :=
    (Memory.inWindow_iff _ _).mpr ⟨hy, (inRangeColumn_iff _).mp ((inRangeColumn_pixelColumn_iff x _).mpr hx)⟩
  have hdraws := State.updatePixel_draws (s := s.setTarget x y) h ho
  rw [hrow, hcol] at hdraws
  exact ⟨_, exec_drawPixel on hy hx, (hdraws hw (subPosition x s.mirror.my) on).of_setTarget.finish statusOk⟩

/-- Settles O46: the word is stored where the pixel lies, by an address, a read, the same address and a write. -/
theorem drawPixelChangesOneField : Obligations.DrawPixelChangesOneField := by
  intro x y on s hy hx h ho
  obtain ⟨t, hexec, hd⟩ := State.drawPixel_draws on hy hx h ho
  exact ⟨t, hexec, hd.stored.word.trans (joinWord_bytes _), hd.stored.sameRamBut, hd.stored.cursor, hd.ready⟩

/-- Settles O47: the second update finds the field forced already, and storing a word again changes nothing. -/
theorem drawPixelIsIdempotent : Obligations.DrawPixelIsIdempotent := by
  intro x y on s hy hx h ho
  obtain ⟨t, ht, hd⟩ := State.drawPixel_draws on hy hx h ho
  have hx' : if t.mirror.my then x.toNat ≤ 159 else x.toNat ≤ 161 := by rwa [hd.mirror]
  obtain ⟨u, hu, hd'⟩ := State.drawPixel_draws on hy hx' hd.ready hd.oracle
  rw [hd.mirror, hd.stored.word, joinWord_bytes, updateWord_updateWord] at hd'
  have hmem : u.dev.mem = t.dev.mem := by
    rw [hd'.stored.mem, hd.stored.mem, Memory.writeWord_writeWord]
  exact ⟨t, u, ht, hu, Device.sameRam_of_eq hmem hd'.stored.epoch, hmem, hd'.w.trans hd.w.symm⟩

/-! ### FILLSCREEN -/

/-- The device once a half-written word is lost, which the first address byte does to it (R36). -/
def Device.settled (d : Device) : Device := { d.loseHalfWord with ph := .a0 }

theorem Device.settled_vb (d : Device) : d.settled.vb = d.vb := by
  obtain ⟨-, -, -, hvb, -⟩ := d.loseHalfWord_frame
  exact hvb

theorem Device.settled_whole (d : Device) : d.settled.ph.whole := nofun

/-- A device with no half-written word loses nothing. -/
theorem Device.settled_sameRam {d : Device} (h : d.ph.whole) : d.sameRam d.settled := by
  rw [Device.settled, Device.loseHalfWord_of_whole h]
  exact Device.sameRam_of_eq rfl rfl

/-- An address begins anew whatever the phase (R36). -/
theorem Device.run_address_settled {d : Device} (hv : d.vb = false) (c : BitVec 7) (r : BitVec 8) :
    d.run (commandTransfers (addressBytes c r)) = d.settled.run (commandTransfers (addressBytes c r)) := by
  have hc : decodeCommand (encodeCommand (.colLow (columnLow c))) = .ok (.colLow (columnLow c)) :=
    decodeCommand_encodeCommand _
  have hfirst : d.receive (.write true (encodeCommand (.colLow (columnLow c)))) =
      d.settled.receive (.write true (encodeCommand (.colLow (columnLow c)))) := by
    rw [Device.receive_command hv hc, Device.receive_command (d.settled_vb.trans hv) hc,
      Device.loseHalfWord_of_whole d.settled_whole]
    rfl
  exact congrArg (fun e : Device => e.run ((commandTransfers (addressBytes c r)).tail)) hfirst

/-- Words at two places of the window have no byte in common. -/
theorem Memory.wordAddr_disjoint {r c r' c' : Nat} (hc : c < 128) (hc' : c' < 128) (h : ¬(r' = r ∧ c' = c)) :
    Memory.wordAddr r' c' ≠ Memory.wordAddr r c ∧ Memory.wordAddr r' c' ≠ Memory.wordAddr r c + 1 ∧
    Memory.wordAddr r' c' + 1 ≠ Memory.wordAddr r c ∧ Memory.wordAddr r' c' + 1 ≠ Memory.wordAddr r c + 1 := by
  unfold Memory.wordAddr
  omega

/-- A word stored leaves the words elsewhere in the window. -/
theorem Device.sameRamBut.word_eq {d e : Device} {r c r' c' : Nat} (h : d.sameRamBut e r c) (hc : c < 128) (hc' : c' < 128)
    (hne : ¬(r' = r ∧ c' = c)) : e.word r' c' = d.word r' c' := by
  obtain ⟨h1, h2, h3, h4⟩ := Memory.wordAddr_disjoint hc hc' hne
  exact congrArg₂ joinWord (h _ h1 h2) (h _ h3 h4)

/-- One round of `FILLSCREEN` from any phase: the word is stored, after a pending half word is lost (R76). -/
theorem Device.fillWord_stores {d : Device} {x : Nat × Nat} (v : Word) (hv : d.vb = false) (hx : x ∈ fillOrder) :
    d.settled.StoredFrom (d.run (fillWordTransfers v x)) x.2 x.1 (highByte v) (lowByte v) := by
  obtain ⟨h1, h2, h3⟩ := (mem_fillOrder x).mp hx
  have ha := Device.addressedAt (d.settled_vb.trans hv) d.settled_whole h3 (c := x.1) (by omega)
  have hst := Device.storedAt (.inl ha.ph) ha.cursorAt ((Memory.inWindow_iff _ _).mpr ⟨h3, h1, h2⟩) (highByte v) (lowByte v)
  rw [fillWordTransfers, Device.run_append, Device.run_address_settled hv]
  exact ⟨hst.mem.trans (by rw [ha.mem]), hst.epoch.trans ha.epoch, hst.cursor, hst.ph,
    hst.vb.trans (ha.vb.trans (d.settled_vb.trans hv).symm)⟩

/-- The words of `l` hold `v`, and once there is one, no half-written word is pending. -/
structure Device.Filled (d : Device) (v : Word) (l : List (Nat × Nat)) : Prop where
  vb : d.vb = false
  whole : l ≠ [] → d.ph.whole
  words : ∀ x ∈ l, d.word x.2 x.1 = v

theorem Device.Filled.nil {d : Device} (v : Word) (hv : d.vb = false) : d.Filled v [] := ⟨hv, fun h => absurd rfl h, nofun⟩

/-- One more word of the window (R76). -/
theorem Device.Filled.snoc {d : Device} {v : Word} {l : List (Nat × Nat)} {x : Nat × Nat} (h : d.Filled v l)
    (hl : l ⊆ fillOrder) (hx : x ∈ fillOrder) : (d.run (fillWordTransfers v x)).Filled v (l ++ [x]) := by
  have hst := Device.fillWord_stores v h.vb hx
  refine ⟨hst.vb.trans (d.settled_vb.trans h.vb), fun _ => hst.ph ▸ nofun, fun y hy => ?_⟩
  by_cases hxy : y.2 = x.2 ∧ y.1 = x.1
  · rw [hxy.1, hxy.2]
    exact hst.word.trans (joinWord_bytes v)
  · have hyl : y ∈ l := by
      rcases List.mem_append.mp hy with hy | hy
      · exact hy
      · rw [List.mem_singleton.mp hy] at hxy
        exact absurd ⟨rfl, rfl⟩ hxy
    obtain ⟨-, hx1, -⟩ := (mem_fillOrder x).mp hx
    obtain ⟨-, hy1, -⟩ := (mem_fillOrder y).mp (hl hyl)
    calc (d.run (fillWordTransfers v x)).word y.2 y.1
        = d.settled.word y.2 y.1 := hst.sameRamBut.word_eq (by omega) (by omega) hxy
      _ = d.word y.2 y.1 := (Device.settled_sameRam (h.whole (List.ne_nil_of_mem hyl))).word_eq _ _
      _ = v := h.words y hyl

/-- Words of the window, one after another (R76). -/
theorem Device.Filled.append {d : Device} {v : Word} {l m : List (Nat × Nat)} (h : d.Filled v l) (hl : l ⊆ fillOrder)
    (hm : m ⊆ fillOrder) : (d.run (m.flatMap (fillWordTransfers v))).Filled v (l ++ m) := by
  induction m generalizing d l with
  | nil => rwa [List.append_nil]
  | cons x m ih =>
    obtain ⟨hx, hm'⟩ := List.cons_subset.mp hm
    have hnext := ih (h.snoc hl hx) (List.append_subset.mpr ⟨hl, List.cons_subset.mpr ⟨hx, List.nil_subset _⟩⟩) hm'
    rwa [List.append_assoc, ← Device.run_append] at hnext

/-- The whole window, from any phase and cursor (R76f). -/
theorem Device.fillOrder_fills {d : Device} (v : Word) (hv : d.vb = false) :
    (d.run (fillOrder.flatMap (fillWordTransfers v))).Filled v fillOrder :=
  (Device.Filled.nil v hv).append (List.nil_subset _) (List.Subset.refl _)

/-- The last word of the window leaves the cursor after it (R76e). -/
theorem Device.fillOrder_ends {d : Device} (v : Word) (hv : d.vb = false) :
    (d.run (fillOrder.flatMap (fillWordTransfers v))).cursorAt 159 91 ∧
    (d.run (fillOrder.flatMap (fillWordTransfers v))).ph = .n := by
  obtain ⟨l, hl⟩ : ∃ l, fillOrder = l ++ [(90, 159)] := ⟨_, fillOrder_last⟩
  have hsub : l ⊆ fillOrder := hl ▸ List.subset_append_left _ _
  have hbefore := (Device.Filled.nil v hv).append (List.nil_subset _) hsub
  have hlast := Device.fillWord_stores v hbefore.vb ((mem_fillOrder (90, 159)).mpr (by decide))
  rw [hl, List.flatMap_append, Device.run_append, List.flatMap_singleton]
  exact ⟨hlast.cursor, hlast.ph⟩

/-- Settles O48: the rounds fill the window from any phase, and the last of them stores the word at (159, 90). -/
theorem fillScreenFillsTheWindow : Obligations.FillScreenFillsTheWindow := by
  intro on s hrst hvb
  have hdev : (s.setW (packWord on on on)).fillWindow.dev =
      s.dev.run (fillOrder.flatMap (fillWordTransfers (packWord on on on))) := by
    rw [State.fillWindow_eq]
    exact if_neg (by simp [hrst])
  refine ⟨_, exec_fillScreen on s, ?_⟩
  rw [State.finish_dev, hdev, ← packWord_same]
  have hfilled := Device.fillOrder_fills (packWord on on on) hvb
  obtain ⟨hcur, hph⟩ := Device.fillOrder_ends (packWord on on on) hvb
  refine ⟨fun r c hw => hfilled.words (c, r) ((mem_fillOrder _).mpr ?_), hcur, hph⟩
  obtain ⟨hr, hc1, hc2⟩ := (Memory.inWindow_iff r c).mp hw
  exact ⟨hc1, hc2, hr⟩

end Sys2Proof.Machine
end

section
/-! PROOFS. Controller Commands (43_controller_commands.md R79 to R85): each operation is its command bytes, sent as `SENDCMD`
sends them, and what a ready device keeps or forgets (20_memory.md R36) follows from the bytes. -/

namespace Sys2Proof.Machine

/-! ### The device -/

/-- A setting's command keeps RAM and cursor, and begins no address (R36). -/
theorem Device.command_setting_keeps {c : Command} (h : Command.setsOnly c = true) (d : Device) :
    d.sameRam (d.command c) ∧ (d.command c).crow = d.crow ∧ (d.command c).ccol = d.ccol ∧ (d.command c).ph = .a0 := by
  rw [Device.command_setting h d]
  exact ⟨Device.sameRam_of_eq rfl rfl, rfl, rfl, rfl⟩

/-- `0x81` and any byte after it: the value is recorded, and it is no command (R36, R51). -/
theorem Device.takeCommands_vbias {d : Device} (hv : d.vb = false) (hp : d.ph.whole) (v : Byte) :
    d.takeCommands [encodeCommand .vbias, v] =
      { d with vb := false, ph := .a0, settings := { d.settings with vbias := some v } } := by
  have hcmd : d.commandWrite (encodeCommand .vbias) = { d with vb := true, ph := .a0 } :=
    Device.commandWrite_encode .vbias hv hp
  show (d.commandWrite (encodeCommand .vbias)).commandWrite v = _
  rw [hcmd]
  exact Device.receive_vbiasValue rfl v

/-- `0xE2` forgets RAM and cursor (R36). -/
theorem Device.command_sysReset_forgets (d : Device) :
    (d.command .sysReset).mem = [] ∧ (d.command .sysReset).epoch = d.draws ∧ (d.command .sysReset).ph = .a0 ∧
      (d.command .sysReset).crow = Config.freeRow (d.draws + 1) ∧
      (d.command .sysReset).ccol = Config.freeColumn (d.draws + 1) :=
  ⟨rfl, rfl, rfl, d.havocRam.havocCursor_crow, d.havocRam.havocCursor_ccol⟩

/-! ### The commands sent -/

/-- One more command after those sent (R54, R62). -/
theorem State.sentCommands.sendCommand {s t : State} {bs : List Byte} (h : s.sentCommands t bs) (b : Byte)
    (status : BitVec 3) : s.sentCommands ((t.sendCommand b).finish status) (bs ++ [b]) := by
  obtain ⟨htrace, hseq, hbus, horacle, hdev⟩ := h
  obtain ⟨htrace', hseq', hbus', horacle', hdev'⟩ := t.sentCommands_sendCommand b status
  have hrst : t.bus.rst = s.bus.rst := by rw [hbus]
  refine ⟨?_, ?_, ?_, horacle'.trans horacle, ?_⟩
  · rw [htrace', htrace]
    simp [commandEvents]
  · rw [hseq', hseq, List.length_append, Nat.mul_add, Nat.add_assoc]
  · rw [hbus', hbus]
    simp
  · have hrun : s.dev.run (commandTransfers (bs ++ [b])) = (s.dev.run (commandTransfers bs)).run (commandTransfers [b]) := by
      rw [← Device.run_append, commandTransfers, List.map_append]
      rfl
    rw [hdev', hdev, hrst, hrun]
    split <;> rfl

/-- A ready device takes the commands one after another (R33, R36). -/
theorem State.sentCommands.dev_of_ready {s t : State} {bs : List Byte} (h : s.sentCommands t bs) (hr : s.deviceReady) :
    t.dev = s.dev.takeCommands bs := by
  obtain ⟨-, -, -, -, hdev⟩ := h
  obtain ⟨hrst, -⟩ := hr
  rw [hdev, Device.run_commands]
  exact if_neg (by simp [hrst])

/-- A ready device takes a table's byte as its command (R36). -/
theorem State.sentCommands.dev_command {s t : State} {c : Command} (h : s.sentCommands t [encodeCommand c])
    (hr : s.deviceReady) : t.dev = s.dev.command c := by
  have ⟨_, hvb, hph⟩ := hr
  exact (h.dev_of_ready hr).trans (Device.commandWrite_encode c hvb hph)

/-- The response after actions that leave the record of responses (R17, R44). -/
theorem State.Kept.endedWith {s t : State} (h : s.Kept t) (status : BitVec 3) :
    s.endedWith (t.finish status) status := by
  obtain ⟨-, hresponses, -⟩ := h
  exact ⟨rfl, rfl, congrArg (· ++ _) hresponses⟩

/-- What a setting's row does: its byte alone, the registers kept, and on a ready device RAM and cursor (R36, R80 to R84). -/
theorem exec_toInstr_setting {c : Command} (hc : Command.setsOnly c = true) (s : State) :
    ∃ t, exec c.toInstr s = .next t ∧ s.endedWith t 0#3 ∧ s.sameRegisters t ∧ s.sentCommands t [encodeCommand c] ∧
      (s.deviceReady → s.dev.sameRam t.dev ∧ t.dev.crow = s.dev.crow ∧ t.dev.ccol = s.dev.ccol) := by
  obtain ⟨t, hx, hend, hreg, hsent, hdev⟩ := exec_toInstr c s
  refine ⟨t, hx, hend, hreg, hsent, fun hr => ?_⟩
  rw [hdev hr]
  obtain ⟨hram, hrow, hcol, -⟩ := Device.command_setting_keeps hc s.dev
  exact ⟨hram, hrow, hcol⟩

/-! ### The operations -/

/-- `SETVBIAS` has no reject (R79). -/
theorem exec_setVbias (v : Byte) (s : State) :
    exec (.setVbias v) s = .next (((s.sendCommand (encodeCommand .vbias)).sendCommand v).finish statusOk) := rfl

/-- `SETMAP` is the mapping command with `MIRROR` written before the response (R82). -/
theorem exec_setMap (mx my : Bool) (s : State) :
    exec (.setMap mx my) s =
      .next (((s.sendCommand (encodeCommand (.mapping mx my))).setMirror mx my).finish statusOk) := rfl

/-- `SYSRESET` is its command and the settle delay (R85). -/
theorem exec_sysReset (s : State) :
    exec .sysReset s =
      .next (((s.sendCommand (encodeCommand .sysReset)).hold Config.sysresetSettleMin).finish statusOk) := rfl

/-- Settles O31: two commands sent one after the other; the device takes the second as the value. -/
theorem setVbiasSendsTheRawValue : Obligations.SetVbiasSendsTheRawValue := by
  obtain ⟨-, -, hdec⟩ := requestFieldsDecodeAsTabled
  refine ⟨fun w => ?_, fun v s => ?_⟩
  · obtain ⟨-, -, -, -, -, -, -, -, -, -, -, -, -, -, hsetVbias, -⟩ := hdec w
    exact hsetVbias
  · have hfirst : s.sentCommands (s.sendCommand (encodeCommand .vbias)) [encodeCommand .vbias] :=
      s.sentCommands_sendCommand (encodeCommand .vbias) statusOk
    have hsent := hfirst.sendCommand v statusOk
    have hkept := (State.Kept.sendCommand s (encodeCommand .vbias)).trans (State.Kept.sendCommand _ v)
    refine ⟨_, exec_setVbias v s, hkept.endedWith statusOk, ?_, hsent, fun hr => ?_⟩
    · rw [State.sendCommand_eq, State.sendCommand_eq]
      exact ⟨⟨rfl, rfl, rfl, rfl, rfl, rfl, rfl, rfl⟩, rfl, rfl, rfl⟩
    · have ⟨_, hvb, hph⟩ := hr
      rw [hsent.dev_of_ready hr, List.singleton_append, Device.takeCommands_vbias hvb hph]
      exact ⟨Device.sameRam_of_eq rfl rfl, rfl, rfl, rfl, rfl, rfl⟩

/-- Settles O32: each operation acts as the row's own instruction, which sets one setting. -/
theorem oneByteCommandsSendTheirByte : Obligations.OneByteCommandsSendTheirByte := by
  intro a s
  rw [← encodeCommand_inverse, ← encodeCommand_dispen]
  exact ⟨exec_toInstr_setting (c := .inverse a) rfl s, exec_toInstr_setting (c := .dispen a) rfl s,
    exec_toInstr_setting (c := .colorPat) rfl s, exec_toInstr_setting (c := .colorMode) rfl s⟩

/-- Settles O33: the mapping command's outcome, with `MIRROR` written. -/
theorem setMapSendsAndStoresTheMode : Obligations.SetMapSendsAndStoresTheMode := by
  intro mx my s
  have hsent := s.sentCommands_sendCommand (encodeCommand (.mapping mx my)) statusOk
  refine ⟨_, exec_setMap mx my s, ⟨rfl, rfl, rfl⟩, ?_, ?_, fun hr => ?_⟩
  · rw [State.sendCommand_eq]
    exact ⟨⟨rfl, rfl, rfl, rfl, rfl, rfl, rfl, rfl⟩, rfl, rfl, rfl⟩
  · cases mx <;> cases my <;> exact hsent
  · have hdev : (s.sendCommand (encodeCommand (.mapping mx my))).dev = s.dev.command (.mapping mx my) :=
      hsent.dev_command hr
    rw [State.finish_dev, State.setMirror_dev, hdev]
    exact Device.command_setting_keeps rfl s.dev

/-- Settles O34: the equation of the command's actions and the one event of the delay; the device forgets. -/
theorem sysResetSendsAndSettles : Obligations.SysResetSendsAndSettles := by
  obtain ⟨-, -, hdec⟩ := requestFieldsDecodeAsTabled
  refine ⟨fun w => ?_, fun s => ⟨_, exec_sysReset s, ?_⟩⟩
  · obtain ⟨-, -, -, -, -, -, -, -, -, -, -, -, -, -, -, -, -, -, -, -, hsysReset, -⟩ := hdec w
    exact hsysReset
  · have hsent := s.sentCommands_sendCommand (encodeCommand .sysReset) statusOk
    have hdev : s.deviceReady → (s.sendCommand (encodeCommand .sysReset)).dev = s.dev.command .sysReset :=
      hsent.dev_command
    obtain ⟨-, -, hbus, horacle, hrun⟩ := hsent
    refine ⟨⟨rfl, rfl, rfl⟩, ?_, ?_, ?_, hbus, horacle, fun h => hrun.trans (if_pos h), fun hr => ?_⟩
    · rw [State.sendCommand_eq]
      exact ⟨⟨rfl, rfl, rfl, rfl, rfl, rfl, rfl, rfl⟩, rfl, rfl, rfl⟩
    · rw [State.sendCommand_eq]
      exact State.trace_of_log rfl
    · rw [State.sendCommand_eq]
      rfl
    · rw [State.finish_dev, State.hold_dev, hdev hr]
      exact s.dev.command_sysReset_forgets

end Sys2Proof.Machine
end

section
/-! PROOFS. Exceptions (60_exceptions.md R86, R89, R90): the causes of a reject, each with the requests it belongs to, and
`STATUS` as the code of the cause. -/

namespace Sys2Proof.Machine

/-! ### The causes -/

/-- The requests rejected for an address or a coordinate out of range (R72, R86). -/
theorem State.rejectCause_eq_rejectRange_iff (s : State) (i : Instr) :
    s.rejectCause i = some .rejectRange ↔
      (∃ x y on, i = .drawPixel x y on ∧
        (159 < y.toNat ∨ pixelColumn x s.mirror.my < 37 ∨ 90 < pixelColumn x s.mirror.my)) ∨
      (∃ c, i = .setCol c ∧ (c.toNat < 37 ∨ 90 < c.toNat)) ∨
      (∃ r, i = .setRow r ∧ 159 < r.toNat) := by
  cases i with
  | drawPixel x y on =>
    have hout : s.rejectCause (.drawPixel x y on) = some .rejectRange ↔
        159 < y.toNat ∨ pixelColumn x s.mirror.my < 37 ∨ 90 < pixelColumn x s.mirror.my := by
      rw [State.rejectCause, Option.ite_none_left_eq_some, and_iff_left rfl, Bool.and_eq_true, inRangeRow_iff,
        inRangeColumn_iff, pixelRow]
      omega
    simp [hout]
  | setCol c =>
    have hout : s.rejectCause (.setCol c) = some .rejectRange ↔ c.toNat < 37 ∨ 90 < c.toNat := by
      rw [State.rejectCause_setCol, Option.ite_none_left_eq_some, and_iff_left rfl]
      omega
    simp [hout]
  | setRow r => simp [State.rejectCause_setRow]
  | setDir o => simp [State.rejectCause_setDir]
  | _ => simp [State.rejectCause]

/-- `SETDIR` is the only request refused for its direction (R56, R86). -/
theorem State.rejectCause_eq_refusedDir_iff (s : State) (i : Instr) :
    s.rejectCause i = some .refusedDir ↔ ∃ o, i = .setDir o ∧ s.bus.cs = true ∧ s.bus.dir ≠ requestedDir o := by
  cases i with
  | setDir o => simp [State.rejectCause_setDir]
  | _ => simp [State.rejectCause]

/-- A decoded request is never rejected as illegal (R89). -/
theorem State.rejectCause_ne_illegalOp (s : State) (i : Instr) : s.rejectCause i ≠ some .illegalOp := by
  cases i with
  | setDir o => simp [State.rejectCause_setDir]
  | _ => simp [State.rejectCause]

/-! ### The status -/

theorem rejectCode_injective : Function.Injective rejectCode := by
  intro c d
  cases c <;> cases d <;> decide

theorem toNat_rejectCode_le (c : RejectCause) : (rejectCode c).toNat ≤ 3 := by
  cases c <;> decide

/-- The codes of the causes tell them apart, and from `OK` (R86). -/
theorem State.outcome_status_eq_rejectCode_iff (s : State) (i : Instr) (c : RejectCause) :
    (s.outcome i).status = rejectCode c ↔ s.rejectCause i = some c := by
  cases hc : s.rejectCause i with
  | some d => rw [State.outcome_of_rejected hc, State.reject_status, rejectCode_injective.eq_iff, Option.some_inj]
  | none =>
    rw [State.outcome_of_accepted hc]
    exact iff_of_false (rejectCode_ne_ok c).symm nofun

/-- The four values `STATUS` takes (R17). -/
theorem State.outcome_status_le (s : State) (i : Instr) : (s.outcome i).status.toNat ≤ 3 := by
  cases hc : s.rejectCause i with
  | some c => rw [State.outcome_of_rejected hc]; exact toNat_rejectCode_le c
  | none => rw [State.outcome_of_accepted hc]; exact Nat.zero_le 3

/-- An outcome that is not `OK` is a reject: `STATUS`, `BUSY` and the response, and nothing else (R90). -/
theorem State.outcome_of_status_ne_ok {s : State} {i : Instr} (h : (s.outcome i).status ≠ 0#3) :
    s.outcome i = s.finish (s.outcome i).status := by
  cases hc : s.rejectCause i with
  | some c => rw [State.outcome_of_rejected hc]; rfl
  | none => exact absurd (congrArg State.status (State.outcome_of_accepted hc)) h

/-- Settles O54: an illegal code is decoded to nothing and rejected at once; a legal one has its instruction's outcome, whose
status is the code of the instruction's cause. -/
theorem onlyTheseRequestsAreRejected : Obligations.OnlyTheseRequestsAreRejected := by
  intro s hb
  by_cases hl : opcField s.op ∈ operationCodes
  · obtain ⟨i, hi⟩ := decodeRequest_legal hl
    have hstatus := s.outcome_status_eq_rejectCode_iff i
    have hrange := (hstatus .rejectRange).trans (s.rejectCause_eq_rejectRange_iff i)
    have hdir := (hstatus .refusedDir).trans (s.rejectCause_eq_refusedDir_iff i)
    have hlegal := (hstatus .illegalOp).not.mpr (s.rejectCause_ne_illegalOp i)
    refine ⟨s.outcome i, ?_, s.outcome_status_le i, iff_of_false hlegal (not_not_intro hl), ?_⟩
    · rw [stepRunsTheDecodedInstruction s i hb hi, exec_eq_outcome]
    · simp only [hi, Except.ok.injEq]
      exact ⟨hrange, hdir, State.outcome_of_status_ne_ok⟩
  · refine ⟨_, illegalRequestIsRejected s hb hl, toNat_rejectCode_le .illegalOp, iff_of_true rfl hl, ?_⟩
    simp [decodeRequest_illegal hl]

end Sys2Proof.Machine
end

section
/-! PROOFS. Event and transfer counts (70_reset_and_hazards.md R113). Out of reset a shared sequence costs the same from every
state of the lines, and costs add up along a trace. -/

namespace Sys2Proof.Machine

/-! ### Costs add up -/

/-- From these lines the events are so many, move so many writes and reads, and strobe so long (R113). -/
def Bus.Costs (b : Bus) (es : List Event) (events writes reads strobe : Nat) : Prop :=
  es.length = events ∧ ((b.transfers es).filter Transfer.isWrite).length = writes ∧
  ((b.transfers es).filter (fun x => !x.isWrite)).length = reads ∧ b.strobeCycles es = strobe

/-- The events cost this from any lines out of reset, and leave the device out of reset. -/
def CostsOutOfReset (es : List Event) (events writes reads strobe : Nat) : Prop :=
  ∀ b : Bus, b.rst = false → b.Costs es events writes reads strobe ∧ (b.run es).rst = false

theorem Bus.strobeCycles_append (b : Bus) (es fs : List Event) :
    b.strobeCycles (es ++ fs) = b.strobeCycles es + (b.run es).strobeCycles fs := by
  induction es generalizing b with
  | nil => exact (Nat.zero_add _).symm
  | cons e es ih => cases e <;> simp [Bus.strobeCycles, Bus.run_cons, ih, Bus.after, Nat.add_assoc]

theorem Bus.Costs.append {b : Bus} {es fs : List Event} {n n' w w' r r' c c' : Nat} (h : b.Costs es n w r c)
    (k : (b.run es).Costs fs n' w' r' c') : b.Costs (es ++ fs) (n + n') (w + w') (r + r') (c + c') := by
  obtain ⟨rfl, rfl, rfl, rfl⟩ := h
  obtain ⟨rfl, rfl, rfl, rfl⟩ := k
  simp [Bus.Costs, Bus.transfers_append, Bus.strobeCycles_append]

theorem CostsOutOfReset.append {es fs : List Event} {n n' w w' r r' c c' : Nat} (h : CostsOutOfReset es n w r c)
    (k : CostsOutOfReset fs n' w' r' c') : CostsOutOfReset (es ++ fs) (n + n') (w + w') (r + r') (c + c') := by
  intro b hb
  obtain ⟨hes, hmid⟩ := h b hb
  obtain ⟨hfs, hend⟩ := k _ hmid
  exact ⟨hes.append hfs, (congrArg Bus.rst (b.run_append es fs)).trans hend⟩

/-- A sequence repeated for each element of a list. -/
theorem CostsOutOfReset.flatMap {α : Type} {f : α → List Event} {n w r c : Nat}
    (h : ∀ x, CostsOutOfReset (f x) n w r c) (l : List α) :
    CostsOutOfReset (l.flatMap f) (l.length * n) (l.length * w) (l.length * r) (l.length * c) := by
  induction l with
  | nil =>
    simp only [List.flatMap_nil, List.length_nil, Nat.zero_mul]
    exact fun b hb => ⟨⟨rfl, rfl, rfl, rfl⟩, hb⟩
  | cons x l ih =>
    simp only [List.flatMap_cons, List.length_cons, Nat.add_comm l.length 1, Nat.add_mul, Nat.one_mul]
    exact (h x).append ih

/-! ### The shared sequences -/

/-- The counts of a list of events whose transfers are known (R33). -/
theorem Bus.Costs.of_transfers {b : Bus} {es : List Event} {ts : List Transfer} {c : Nat} (h : b.transfers es = ts)
    (hc : b.strobeCycles es = c) :
    b.Costs es es.length (ts.filter Transfer.isWrite).length (ts.filter (fun x => !x.isWrite)).length c := by
  subst h
  exact ⟨rfl, rfl, rfl, hc⟩

/-- One write strobe (R57). -/
theorem Bus.strobeCycles_writePulseEvents (b : Bus) (v : Byte) :
    b.strobeCycles (writePulseEvents v) = Config.wrPulseMin := by
  simp [writePulseEvents, Bus.strobeCycles, Bus.after]

/-- One read strobe (R58). -/
theorem Bus.strobeCycles_readPulseEvents (b : Bus) (v : Byte) :
    b.strobeCycles (readPulseEvents v) = Config.rdPulseMin := by
  simp [readPulseEvents, Bus.strobeCycles, Bus.after]

/-- The pulse of `WRB` is a transfer under chip-select alone (R33, R57). -/
theorem Bus.Costs.writePulse {b : Bus} (h : b.rst = false) (v : Byte) :
    b.Costs (writePulseEvents v) 5 (if b.cs then 1 else 0) 0 Config.wrPulseMin := by
  have hstrobe := b.strobeCycles_writePulseEvents v
  obtain ⟨cs, cd, rd, wr, rst, dir, dout, pulse⟩ := b
  cases h
  cases cs with
  | true => exact .of_transfers (ts := [.write cd v]) rfl hstrobe
  | false => exact .of_transfers (ts := []) rfl hstrobe

/-- The pulse of `RDB` is a transfer under chip-select alone (R33, R58). -/
theorem Bus.Costs.readPulse {b : Bus} (h : b.rst = false) (v : Byte) :
    b.Costs (readPulseEvents v) 5 0 (if b.cs then 1 else 0) Config.rdPulseMin := by
  have hstrobe := b.strobeCycles_readPulseEvents v
  obtain ⟨cs, cd, rd, wr, rst, dir, dout, pulse⟩ := b
  cases h
  cases cs with
  | true => exact .of_transfers (ts := [.read cd v]) rfl hstrobe
  | false => exact .of_transfers (ts := []) rfl hstrobe

/-- A hold between operations is no strobe (R12b, R113). -/
theorem Bus.Costs.idleHold {b : Bus} (h : b.quiet) (n : Nat) : b.Costs [.hold n] 1 0 0 0 := by
  obtain ⟨hrd, hwr, -⟩ := h
  exact .of_transfers (ts := []) rfl (by simp [Bus.strobeCycles, hrd, hwr])

theorem CostsOutOfReset.sendCmd (v : Byte) : CostsOutOfReset (sendCmdEvents v) 8 1 0 Config.wrPulseMin := by
  intro b hb
  have hstrobe : b.strobeCycles (sendCmdEvents v) = Config.wrPulseMin := by
    simp [sendCmdEvents, Bus.strobeCycles_append, Bus.strobeCycles_writePulseEvents, Bus.strobeCycles]
  exact ⟨.of_transfers (Bus.transfers_sendCmdEvents hb v) hstrobe, hb⟩

theorem CostsOutOfReset.wrWord (v : Word) : CostsOutOfReset (wrWordEvents v) 13 2 0 (2 * Config.wrPulseMin) := by
  intro b hb
  have hstrobe : b.strobeCycles (wrWordEvents v) = 2 * Config.wrPulseMin := by
    simp [wrWordEvents, Bus.strobeCycles_append, Bus.strobeCycles_writePulseEvents, Bus.strobeCycles, Nat.two_mul]
  exact ⟨.of_transfers (Bus.transfers_wrWordEvents hb v) hstrobe, hb⟩

theorem CostsOutOfReset.rdWord (d hi lo : Byte) :
    CostsOutOfReset (rdWordEvents d hi lo) 18 0 3 (3 * Config.rdPulseMin) := by
  intro b hb
  have hstrobe : b.strobeCycles (rdWordEvents d hi lo) = 3 * Config.rdPulseMin := by
    simp [rdWordEvents, Bus.strobeCycles_append, Bus.strobeCycles_readPulseEvents, Bus.strobeCycles]
    omega
  exact ⟨.of_transfers (Bus.transfers_rdWordEvents hb d hi lo) hstrobe, hb⟩

theorem CostsOutOfReset.commands (bs : List Byte) :
    CostsOutOfReset (commandEvents bs) (bs.length * 8) bs.length 0 (bs.length * Config.wrPulseMin) := by
  have h : CostsOutOfReset (commandEvents bs) _ _ _ _ := CostsOutOfReset.flatMap CostsOutOfReset.sendCmd bs
  rwa [Nat.mul_one, Nat.mul_zero] at h

/-- The four commands of an address (R24, R75). -/
theorem CostsOutOfReset.address (c : BitVec 7) (r : BitVec 8) :
    CostsOutOfReset (commandEvents (addressBytes c r)) 32 4 0 (4 * Config.wrPulseMin) :=
  CostsOutOfReset.commands (addressBytes c r)

/-- An address, a word read, the same address, a word written (R75). -/
theorem CostsOutOfReset.drawPixel (c : BitVec 7) (r : BitVec 8) (p : Fin 3) (on : Bool) (d hi lo : Byte) :
    CostsOutOfReset (drawPixelEvents c r p on d hi lo) 95 10 3 (10 * Config.wrPulseMin + 3 * Config.rdPulseMin) := by
  have hstrobe (w r : Nat) : 10 * w + 3 * r = 4 * w + 3 * r + 4 * w + 2 * w := by omega
  rw [hstrobe]
  exact (((address c r).append (rdWord d hi lo)).append (address c r)).append (wrWord _)

/-- One word of `FILLSCREEN` is an address and a word written (R76). -/
theorem CostsOutOfReset.fillWord (v : Word) (cr : Nat × Nat) :
    CostsOutOfReset (fillWordEvents v cr) 45 6 0 (6 * Config.wrPulseMin) := by
  rw [show 6 * Config.wrPulseMin = 4 * Config.wrPulseMin + 2 * Config.wrPulseMin from Nat.add_mul 4 2 _]
  exact (address _ _).append (wrWord v)

theorem CostsOutOfReset.fill (v : Word) : CostsOutOfReset (fillEvents v) 388800 51840 0 (51840 * Config.wrPulseMin) := by
  have h := CostsOutOfReset.flatMap (CostsOutOfReset.fillWord v) fillOrder
  rwa [length_fillOrder, ← Nat.mul_assoc] at h

/-! ### The operations -/

/-- The response of an operation is no part of its counts. -/
theorem State.Ran.counts {s t : State} {es : List Event} {n w r c : Nat} (h : s.Ran t es) (k : s.bus.Costs es n w r c)
    (status : BitVec 3) : s.counts (t.finish status) n w r c := by
  obtain ⟨hlog, -⟩ := h
  exact ⟨es, State.trace_of_log hlog, k⟩

section
variable {s : State} (hr : s.bus.rst = false)
include hr

theorem State.Ran.counts_of_costsOutOfReset {t : State} {es : List Event} {n w r c : Nat} (h : s.Ran t es)
    (k : CostsOutOfReset es n w r c) : s.counts (t.finish statusOk) n w r c := by
  obtain ⟨hcosts, -⟩ := k s.bus hr
  exact h.counts hcosts statusOk

theorem State.Ran.counts_oneCommand {t : State} {b : Byte} (h : s.Ran t (commandEvents [b])) :
    s.counts (t.finish statusOk) 8 1 0 Config.wrPulseMin := by
  have k : s.counts (t.finish statusOk) 8 1 0 (1 * Config.wrPulseMin) :=
    h.counts_of_costsOutOfReset hr (.commands [b])
  rwa [Nat.one_mul] at k

theorem State.Ran.counts_twoCommands {t : State} {b b' : Byte} (h : s.Ran t (commandEvents [b, b'])) :
    s.counts (t.finish statusOk) 16 2 0 (2 * Config.wrPulseMin) :=
  h.counts_of_costsOutOfReset hr (.commands [b, b'])

end

theorem State.rejectCause_of_status_ok {s : State} {i : Instr} (h : (s.outcome i).status = 0#3) : s.rejectCause i = none := by
  cases hc : s.rejectCause i with
  | some c => exact absurd (((s.outcome_status_eq_rejectCode_iff i c).mpr hc).symm.trans h) (rejectCode_ne_ok c)
  | none => rfl

/-- Settles O59: a reject has no events; an accepted instruction runs the events of its shared sequences, whose costs add up. -/
theorem eventAndTransferCounts : Obligations.EventAndTransferCounts := by
  intro s i t hq hr hx w r
  rw [exec_eq_outcome] at hx
  cases hx
  refine ⟨fun h => ?_, fun h => ?_⟩
  · rw [State.outcome_of_status_ne_ok h]
    exact (State.Ran.refl rfl rfl rfl).counts ⟨rfl, rfl, rfl, rfl⟩ _
  · rw [State.outcome_of_accepted (State.rejectCause_of_status_ok h)]
    cases i with
    | setDir o => exact State.Ran.counts (.setDir s _) ⟨rfl, rfl, rfl, rfl⟩ statusOk
    | selChip a => exact State.Ran.counts (.setLine s .cs a) ⟨rfl, rfl, rfl, rfl⟩ statusOk
    | selCmd k => exact State.Ran.counts (.setLine s .cd k) ⟨rfl, rfl, rfl, rfl⟩ statusOk
    | setRst a => exact State.Ran.counts (.setLine s .rst a) ⟨rfl, rfl, rfl, rfl⟩ statusOk
    | wrb v => exact State.Ran.counts (.writePulse s v) (.writePulse hr v) statusOk
    | rdb => exact State.Ran.counts (.of_end (.readPulse s) rfl rfl rfl) (.readPulse hr _) statusOk
    | wrWord v => exact State.Ran.counts_of_costsOutOfReset hr (.writeWord s v) (.wrWord v)
    | drawTriplet p1 p2 p3 => exact State.Ran.counts_of_costsOutOfReset hr (.writeWord s _) (.wrWord _)
    | rdWord => exact State.Ran.counts_of_costsOutOfReset hr (.of_end (.readWord s) rfl rfl rfl) (.rdWord _ _ _)
    | setCol c => exact State.Ran.counts_twoCommands hr (.of_start (.sendColumn _) rfl rfl rfl)
    | setRow r => exact State.Ran.counts_twoCommands hr (.of_start (.sendRow _) rfl rfl rfl)
    | setVbias v => exact State.Ran.counts_twoCommands hr (.sendCommands s _)
    | drawPixel x y on =>
      exact State.Ran.counts_of_costsOutOfReset hr (.of_start (.updatePixel _ _ on) rfl rfl rfl)
        (.drawPixel _ _ _ _ _ _ _)
    | fillScreen on => exact State.Ran.counts_of_costsOutOfReset hr (.of_start (.fillWindow _) rfl rfl rfl) (.fill _)
    | setMap mx my => exact State.Ran.counts_oneCommand hr (.of_end (.sendCommands s _) rfl rfl rfl)
    | sysReset =>
      obtain ⟨-, hquiet⟩ := Bus.Keeps.sendCmd s.bus (encodeCommand .sysReset) hq
      obtain ⟨hsend, -⟩ := CostsOutOfReset.sendCmd (encodeCommand .sysReset) s.bus hr
      exact State.Ran.counts (.trans (.sendCommand s _) (.hold _ _)) (hsend.append (.idleHold hquiet _)) statusOk
    | _ => exact State.Ran.counts_oneCommand hr (.sendCommands s _)

end Sys2Proof.Machine
end

section
/-! PROOFS. The idle block and the host's moves (70_reset_and_hazards.md R97, R98, R115, R116). -/

namespace Sys2Proof.Machine

theorem step_of_noMove {s : State} (hb : s.busy = false) (hh : s.host = []) : step s = .next s := by
  simp [step_of_idle hb, State.meetHost, hh]

theorem step_of_pause {s : State} {ms : List HostMove} (hb : s.busy = false) (hh : s.host = .pause :: ms) :
    step s = .next { s with host := ms } := by
  simp [step_of_idle hb, State.meetHost, hh, State.dropMove]

theorem step_of_blockReset {s : State} {ms : List HostMove} (hb : s.busy = false) (hh : s.host = .blockReset :: ms) :
    step s = .next { s.blockReset with host := ms } := by
  simp [step_of_idle hb, State.meetHost, hh, State.dropMove, State.blockReset]

theorem step_of_requestThenReset {s : State} {r : Request} {ms : List HostMove} (hb : s.busy = false)
    (hh : s.host = .requestThenReset r :: ms) : step s = .next { s.abandon with host := ms } := by
  simp [step_of_idle hb, State.meetHost, hh, State.dropMove, State.abandon, State.blockReset]

/-- Settles O16: one equation of the step per move. -/
theorem idleBlockFollowsTheHost : Obligations.IdleBlockFollowsTheHost := by
  intro s ms r hb
  refine ⟨step_of_noMove hb, step_of_pause hb, fun hh => ⟨_, step_of_blockReset hb hh, ?_⟩,
    fun hh => ⟨_, step_of_requestThenReset hb hh, ?_⟩⟩
  · exact ⟨rfl, rfl, rfl, rfl, rfl, rfl, rfl, rfl, rfl, rfl, rfl, rfl, rfl, rfl⟩
  · exact ⟨rfl, rfl, rfl, rfl, rfl, rfl, rfl, rfl, rfl, rfl, rfl, rfl, rfl, rfl, rfl, rfl⟩

end Sys2Proof.Machine
end

section
/-! PROOFS. The mapping of block and device (70_reset_and_hazards.md R99, R107): what each operation leaves in `MIRROR` and in the
device's mapping setting. -/

namespace Sys2Proof.Machine

theorem Device.command_mapping_setting (mx my : Bool) (d : Device) :
    (d.command (.mapping mx my)).settings.mapping = some { mx := mx, my := my } := rfl

theorem Device.command_sysReset_settings (d : Device) : (d.command .sysReset).settings = Settings.unknown := rfl

/-- A mapping that is not known agrees with no `MIRROR` (R107). -/
theorem State.not_mirrorAgrees_of_unknown {s : State} (h : s.dev.settings = Settings.unknown) : ¬s.mirrorAgrees := by
  simp [State.mirrorAgrees, h, Settings.unknown]

/-- After a mapping command block and device agree exactly if the command's mapping is `MIRROR` (R107). -/
theorem State.mirrorAgrees_iff_of_mapping {s : State} {d : Device} {mx my : Bool}
    (h : s.dev = d.command (.mapping mx my)) : s.mirrorAgrees ↔ s.mirror = { mx := mx, my := my } := by
  rw [State.mirrorAgrees, h, Device.command_mapping_setting, Option.some_inj, eq_comm]

/-- A ready device takes a command sent as its command (R36, R62). -/
theorem State.sendCommand_dev_of_ready {s : State} (h : s.deviceReady) (c : Command) :
    (s.sendCommand (encodeCommand c)).dev = s.dev.command c :=
  (s.sentCommands_sendCommand (encodeCommand c) statusOk).dev_command h

/-- Settles O60: a ready device takes the mapping command and `0xE2` as they are, and the rise of the reset line makes it forget
its settings; `SETMAP` alone writes `MIRROR`. -/
theorem mirrorAgreementIsMadeAndLost : Obligations.MirrorAgreementIsMadeAndLost := by
  intro s hs
  refine ⟨fun mx my => ⟨_, exec_setMap mx my s, ?_⟩, ⟨_, exec_sysReset s, ?_, ?_⟩, ?_, fun mx my => ?_⟩
  · have hdev : (((s.sendCommand (encodeCommand (.mapping mx my))).setMirror mx my).finish statusOk).dev =
        s.dev.command (.mapping mx my) := State.sendCommand_dev_of_ready hs _
    exact (State.mirrorAgrees_iff_of_mapping hdev).mpr rfl
  · exact (State.Kept.sendCommand s (encodeCommand .sysReset)).mirror_eq
  · apply State.not_mirrorAgrees_of_unknown
    rw [State.finish_dev, State.hold_dev, State.sendCommand_dev_of_ready hs, Device.command_sysReset_settings]
  · obtain ⟨hrst, -⟩ := hs
    obtain ⟨t, hx, -, ⟨⟨hmirror, -⟩, -⟩, -, -, -, -, -, -, hforget⟩ := resetLineMakesTheDeviceForget true s
    obtain ⟨-, -, -, -, hsettings, -⟩ := hforget rfl hrst
    exact ⟨t, hx, hmirror, State.not_mirrorAgrees_of_unknown hsettings⟩
  · obtain ⟨t, hx, -, ⟨⟨hmirror, -⟩, -⟩, -, hdev⟩ := exec_toInstr (.mapping mx my) s
    refine ⟨t, (exec_sendCmd_encode _ s).trans hx, hmirror, ?_⟩
    rw [State.mirrorAgrees_iff_of_mapping (hdev hs), hmirror]

end Sys2Proof.Machine
end
